-- ==== Sys2Proof/Word.lean ====
section
/-! DEFINITION. The words the hardware works on and the three CRC register widths.
Every value is an unsigned integer of a stated width (spec/00_scope.md R7); the width W of a CRC
command is one of 8, 16 and 32 (R5). -/

namespace Sys2Proof

/-- A `u8`. -/
abbrev Byte := BitVec 8

/-- A `u32`: the command word, the physical CRC register, the MD5 words. -/
abbrev Word := BitVec 32

/-- The width W of a CRC command (spec/00_scope.md R5, spec/30_encoding.md R63). -/
inductive Width where
  | w8
  | w16
  | w32
  deriving DecidableEq, Repr, Inhabited

/-- W as a number of bits. -/
abbrev Width.bits : Width → Nat
  | .w8 => 8
  | .w16 => 16
  | .w32 => 32

end Sys2Proof
end

