-- ==== Sys2Proof/Syntax.lean ====
section
/-! DEFINITION. The 21 commands of spec/opcode_table.json (spec/30_encoding.md R72), one constructor per
row. The command word carries MODEL_ID and, for append and verify, ENG; LEN, DATA and BUF are not part of
the encoding (R69) and stand in State. -/

namespace Sys2Proof

/-- The engine an append or verify recomputes the CRC with: the ENG bit (spec/30_encoding.md R65). -/
inductive Engine where
  | bitSerial
  | table
  deriving DecidableEq, Repr

/-- A command (spec/30_encoding.md R72). `id` is the MODEL_ID field, used as is (R66). -/
inductive Instr where
  | crc8Compute (id : Byte)
  | crc16Compute (id : Byte)
  | crc32Compute (id : Byte)
  | crc8ComputeMirror (id : Byte)
  | crc16ComputeMirror (id : Byte)
  | crc32ComputeMirror (id : Byte)
  | crc8ComputeTable (id : Byte)
  | crc16ComputeTable (id : Byte)
  | crc32ComputeTable (id : Byte)
  | crc8GenerateTable (id : Byte)
  | crc16GenerateTable (id : Byte)
  | crc32GenerateTable (id : Byte)
  | crc8Append (id : Byte) (eng : Engine)
  | crc16Append (id : Byte) (eng : Engine)
  | crc32Append (id : Byte) (eng : Engine)
  | crc8Verify (id : Byte) (eng : Engine)
  | crc16Verify (id : Byte) (eng : Engine)
  | crc32Verify (id : Byte) (eng : Engine)
  | md5Init
  | md5Update
  | md5Final
  deriving DecidableEq, Repr

/-- The width and MODEL_ID of a CRC command; none for the MD5 commands, which select no model. -/
def Instr.model : Instr → Option (Width × Byte)
  | .crc8Compute id => some (.w8, id)
  | .crc16Compute id => some (.w16, id)
  | .crc32Compute id => some (.w32, id)
  | .crc8ComputeMirror id => some (.w8, id)
  | .crc16ComputeMirror id => some (.w16, id)
  | .crc32ComputeMirror id => some (.w32, id)
  | .crc8ComputeTable id => some (.w8, id)
  | .crc16ComputeTable id => some (.w16, id)
  | .crc32ComputeTable id => some (.w32, id)
  | .crc8GenerateTable id => some (.w8, id)
  | .crc16GenerateTable id => some (.w16, id)
  | .crc32GenerateTable id => some (.w32, id)
  | .crc8Append id _ => some (.w8, id)
  | .crc16Append id _ => some (.w16, id)
  | .crc32Append id _ => some (.w32, id)
  | .crc8Verify id _ => some (.w8, id)
  | .crc16Verify id _ => some (.w16, id)
  | .crc32Verify id _ => some (.w32, id)
  | .md5Init => none
  | .md5Update => none
  | .md5Final => none

/-! ## The families crcN_..., N the width (spec/30_encoding.md R62, R63) -/

/-- `crcN_compute`. -/
def Instr.compute : Width → Byte → Instr
  | .w8, id => .crc8Compute id
  | .w16, id => .crc16Compute id
  | .w32, id => .crc32Compute id

/-- `crcN_compute_mirror`. -/
def Instr.computeMirror : Width → Byte → Instr
  | .w8, id => .crc8ComputeMirror id
  | .w16, id => .crc16ComputeMirror id
  | .w32, id => .crc32ComputeMirror id

/-- `crcN_compute_table`. -/
def Instr.computeTable : Width → Byte → Instr
  | .w8, id => .crc8ComputeTable id
  | .w16, id => .crc16ComputeTable id
  | .w32, id => .crc32ComputeTable id

/-- `crcN_generate_table`. -/
def Instr.generateTable : Width → Byte → Instr
  | .w8, id => .crc8GenerateTable id
  | .w16, id => .crc16GenerateTable id
  | .w32, id => .crc32GenerateTable id

/-- `crcN_append`. -/
def Instr.append : Width → Byte → Engine → Instr
  | .w8, id, eng => .crc8Append id eng
  | .w16, id, eng => .crc16Append id eng
  | .w32, id, eng => .crc32Append id eng

/-- `crcN_verify`. -/
def Instr.verify : Width → Byte → Engine → Instr
  | .w8, id, eng => .crc8Verify id eng
  | .w16, id, eng => .crc16Verify id eng
  | .w32, id, eng => .crc32Verify id eng

end Sys2Proof
end

