-- ==== Sys2Proof/WellFormed.lean ====
section
/-! DEFINITION. Which commands are among the legal command words of the shipped hardware
(spec/30_encoding.md R71, R72): a CRC command names a model of its width. -/

namespace Sys2Proof

/-- N_MODELS[W] of the shipped PARAM_ROM: 4, 9 and 2 (spec/00_scope.md R5, spec/10_state.md R15). -/
def shippedModels : Width → Nat
  | .w8 => 4
  | .w16 => 9
  | .w32 => 2

/-- `MODEL_ID < N_MODELS[W]` for the shipped ROM; an MD5 command has no operand to check. A command that
fails this still decodes (it matches its row) and faults with ERR_MODEL when it runs. -/
def Instr.wellFormed (i : Instr) : Bool :=
  match i.model with
  | some (W, id) => decide (id.toNat < shippedModels W)
  | none => true

end Sys2Proof
end

