-- ==== Sys2Proof/Decode.lean ====
section
/-! DEFINITION. Decoding and encoding of command words.

The decoder follows the field tests of spec/30_encoding.md R71; the encoder and the rows follow the
match and mask columns of R72. The last test of R71, `id >= N_MODELS[W]`, depends on the ROM and is made by
the command when it looks its model up (Machine/Ops.lean, `crcCommand`), as R72 puts it: a word that matches a
row but whose MODEL_ID is out of range faults with ERR_MODEL (assumption log 11). -/

namespace Sys2Proof

/-- Why a word matches no row of R72 (spec/60_exceptions.md R176); each is ERR_ILLEGAL_CMD. -/
inductive Reject where
  /-- A bit of CMD[31:16] is 1. -/
  | reservedBits
  /-- OP is 0x0, 0x6, 0x7 or 0xB to 0xF. -/
  | reservedOp
  /-- WSEL = 3 on a CRC operation. -/
  | reservedWidth
  /-- A field that must be 0 for the operation is not. -/
  | nonzeroField
  deriving DecidableEq, Repr

/-! ## The fields of format C (spec/30_encoding.md R61) -/

/-- OP, CMD[3:0]. -/
def opField (w : Word) : BitVec 4 := w.extractLsb' 0 4

/-- WSEL, CMD[5:4]. -/
def wselField (w : Word) : BitVec 2 := w.extractLsb' 4 2

/-- FORM, CMD[6]. -/
def formField (w : Word) : Bool := w.getLsbD 6

/-- ENG, CMD[7]. -/
def engField (w : Word) : Bool := w.getLsbD 7

/-- MODEL_ID, CMD[15:8]. -/
def idField (w : Word) : Byte := w.extractLsb' 8 8

/-- RSV, CMD[31:16]. -/
def rsvField (w : Word) : BitVec 16 := w.extractLsb' 16 16

/-- `W <- 8 << wsel`, with WSEL = 3 reserved (spec/30_encoding.md R63). -/
def selectWidth (wsel : BitVec 2) : Option Width :=
  match wsel.toNat with
  | 0 => some .w8
  | 1 => some .w16
  | 2 => some .w32
  | _ => none

/-- ENG = 1 is the table-driven engine (spec/30_encoding.md R65). -/
def engineOf (eng : Bool) : Engine := if eng then .table else .bitSerial

/-! ## The decoder -/

/-- A CRC operation by its fields (spec/30_encoding.md R62): FORM is free for OP 1 only, ENG for OP 4 and 5
only. -/
def decodeCrc (op : Nat) (W : Width) (form eng : Bool) (id : Byte) : Except Reject Instr :=
  match op, W, form, eng with
  | 1, .w8, false, false => .ok (.crc8Compute id)
  | 1, .w16, false, false => .ok (.crc16Compute id)
  | 1, .w32, false, false => .ok (.crc32Compute id)
  | 1, .w8, true, false => .ok (.crc8ComputeMirror id)
  | 1, .w16, true, false => .ok (.crc16ComputeMirror id)
  | 1, .w32, true, false => .ok (.crc32ComputeMirror id)
  | 2, .w8, false, false => .ok (.crc8ComputeTable id)
  | 2, .w16, false, false => .ok (.crc16ComputeTable id)
  | 2, .w32, false, false => .ok (.crc32ComputeTable id)
  | 3, .w8, false, false => .ok (.crc8GenerateTable id)
  | 3, .w16, false, false => .ok (.crc16GenerateTable id)
  | 3, .w32, false, false => .ok (.crc32GenerateTable id)
  | 4, .w8, false, e => .ok (.crc8Append id (engineOf e))
  | 4, .w16, false, e => .ok (.crc16Append id (engineOf e))
  | 4, .w32, false, e => .ok (.crc32Append id (engineOf e))
  | 5, .w8, false, e => .ok (.crc8Verify id (engineOf e))
  | 5, .w16, false, e => .ok (.crc16Verify id (engineOf e))
  | 5, .w32, false, e => .ok (.crc32Verify id (engineOf e))
  | _, _, _, _ => .error .nonzeroField

/-- An MD5 operation: every other field must be 0 (spec/30_encoding.md R62). -/
def decodeMd5 (i : Instr) (wsel : BitVec 2) (form eng : Bool) (id : Byte) : Except Reject Instr :=
  if wsel = 0 ∧ form = false ∧ eng = false ∧ id = 0 then .ok i else .error .nonzeroField

/-- The operation by OP (spec/30_encoding.md R62). -/
def decodeFields (op : BitVec 4) (wsel : BitVec 2) (form eng : Bool) (id : Byte) : Except Reject Instr :=
  match op.toNat with
  | 1 | 2 | 3 | 4 | 5 =>
    match selectWidth wsel with
    | some W => decodeCrc op.toNat W form eng id
    | none => .error .reservedWidth
  | 8 => decodeMd5 .md5Init wsel form eng id
  | 9 => decodeMd5 .md5Update wsel form eng id
  | 10 => decodeMd5 .md5Final wsel form eng id
  | _ => .error .reservedOp

/-- The decoder, total on all 2^32 command words (spec/30_encoding.md R71). -/
def decode (w : Word) : Except Reject Instr :=
  if rsvField w = 0 then
    decodeFields (opField w) (wselField w) (formField w) (engField w) (idField w)
  else .error .reservedBits

/-- The decoder on a word given as a number of `nbits` bits, as spec/opcode_table.json numbers them; a
command is one 32-bit word and has no byte order (spec/30_encoding.md R60). -/
def decodeTableWord (nbits w : Nat) : Option Instr :=
  match decode (BitVec.ofNat 32 (w % 2 ^ nbits)) with
  | .ok i => some i
  | .error _ => none

/-! ## The encoder -/

/-- The value of the ENG bit. -/
def engBit : Engine → Word
  | .bitSerial => 0
  | .table => 1

/-- The full word of a CRC command: `match OR (MODEL_ID << 8) OR (ENG << 7)` (spec/30_encoding.md R72). -/
def crcWord (pattern : Word) (id : Byte) (eng : Engine) : Word :=
  pattern ||| (id.setWidth 32 <<< 8) ||| (engBit eng <<< 7)

/-- The command word of an instruction, from the match column of spec/30_encoding.md R72. -/
def encode : Instr → Word
  | .crc8Compute id => crcWord 0x00000001 id .bitSerial
  | .crc16Compute id => crcWord 0x00000011 id .bitSerial
  | .crc32Compute id => crcWord 0x00000021 id .bitSerial
  | .crc8ComputeMirror id => crcWord 0x00000041 id .bitSerial
  | .crc16ComputeMirror id => crcWord 0x00000051 id .bitSerial
  | .crc32ComputeMirror id => crcWord 0x00000061 id .bitSerial
  | .crc8ComputeTable id => crcWord 0x00000002 id .bitSerial
  | .crc16ComputeTable id => crcWord 0x00000012 id .bitSerial
  | .crc32ComputeTable id => crcWord 0x00000022 id .bitSerial
  | .crc8GenerateTable id => crcWord 0x00000003 id .bitSerial
  | .crc16GenerateTable id => crcWord 0x00000013 id .bitSerial
  | .crc32GenerateTable id => crcWord 0x00000023 id .bitSerial
  | .crc8Append id eng => crcWord 0x00000004 id eng
  | .crc16Append id eng => crcWord 0x00000014 id eng
  | .crc32Append id eng => crcWord 0x00000024 id eng
  | .crc8Verify id eng => crcWord 0x00000005 id eng
  | .crc16Verify id eng => crcWord 0x00000015 id eng
  | .crc32Verify id eng => crcWord 0x00000025 id eng
  | .md5Init => 0x00000008
  | .md5Update => 0x00000009
  | .md5Final => 0x0000000A

/-! ## The rows -/

/-- A row of the opcode table: a word w selects it iff `w AND mask = match` (spec/30_encoding.md R72). -/
structure OpcodeRow where
  mnemonic : String
  pattern : Word
  mask : Word
  deriving DecidableEq, Repr

/-- Whether a word selects a row. -/
def OpcodeRow.selects (r : OpcodeRow) (w : Word) : Bool := w &&& r.mask == r.pattern

/-- The 21 rows of spec/30_encoding.md R72. -/
def opcodeRows : List OpcodeRow :=
  [⟨"crc8_compute", 0x00000001, 0xFFFF00FF⟩,
   ⟨"crc16_compute", 0x00000011, 0xFFFF00FF⟩,
   ⟨"crc32_compute", 0x00000021, 0xFFFF00FF⟩,
   ⟨"crc8_compute_mirror", 0x00000041, 0xFFFF00FF⟩,
   ⟨"crc16_compute_mirror", 0x00000051, 0xFFFF00FF⟩,
   ⟨"crc32_compute_mirror", 0x00000061, 0xFFFF00FF⟩,
   ⟨"crc8_compute_table", 0x00000002, 0xFFFF00FF⟩,
   ⟨"crc16_compute_table", 0x00000012, 0xFFFF00FF⟩,
   ⟨"crc32_compute_table", 0x00000022, 0xFFFF00FF⟩,
   ⟨"crc8_generate_table", 0x00000003, 0xFFFF00FF⟩,
   ⟨"crc16_generate_table", 0x00000013, 0xFFFF00FF⟩,
   ⟨"crc32_generate_table", 0x00000023, 0xFFFF00FF⟩,
   ⟨"crc8_append", 0x00000004, 0xFFFF007F⟩,
   ⟨"crc16_append", 0x00000014, 0xFFFF007F⟩,
   ⟨"crc32_append", 0x00000024, 0xFFFF007F⟩,
   ⟨"crc8_verify", 0x00000005, 0xFFFF007F⟩,
   ⟨"crc16_verify", 0x00000015, 0xFFFF007F⟩,
   ⟨"crc32_verify", 0x00000025, 0xFFFF007F⟩,
   ⟨"md5_init", 0x00000008, 0xFFFFFFFF⟩,
   ⟨"md5_update", 0x00000009, 0xFFFFFFFF⟩,
   ⟨"md5_final", 0x0000000A, 0xFFFFFFFF⟩]

/-- The table's name of an instruction. -/
def Instr.mnemonic : Instr → String
  | .crc8Compute _ => "crc8_compute"
  | .crc16Compute _ => "crc16_compute"
  | .crc32Compute _ => "crc32_compute"
  | .crc8ComputeMirror _ => "crc8_compute_mirror"
  | .crc16ComputeMirror _ => "crc16_compute_mirror"
  | .crc32ComputeMirror _ => "crc32_compute_mirror"
  | .crc8ComputeTable _ => "crc8_compute_table"
  | .crc16ComputeTable _ => "crc16_compute_table"
  | .crc32ComputeTable _ => "crc32_compute_table"
  | .crc8GenerateTable _ => "crc8_generate_table"
  | .crc16GenerateTable _ => "crc16_generate_table"
  | .crc32GenerateTable _ => "crc32_generate_table"
  | .crc8Append _ _ => "crc8_append"
  | .crc16Append _ _ => "crc16_append"
  | .crc32Append _ _ => "crc32_append"
  | .crc8Verify _ _ => "crc8_verify"
  | .crc16Verify _ _ => "crc16_verify"
  | .crc32Verify _ _ => "crc32_verify"
  | .md5Init => "md5_init"
  | .md5Update => "md5_update"
  | .md5Final => "md5_final"

end Sys2Proof
end

