-- ==== Sys2Proof/Config.lean ====
section
/-! DEFINITION. What an implementation fixes (spec/00_scope.md R5) and the free values.

PARAM_ROM is a parameter of the hardware with a shipped value. Its TYPE is here, its shipped value in
Machine/Rom.lean, and State carries the ROM a machine has, so that a statement about every state is a
statement about every ROM (assumption log 2). The parameter LEN_W stands in State the same way, with its
default value after reset (State.lenW, log 3). BUF_LEN comes with the buffer (State.bufLen, log 4). REG_BASE
is open (log 14). -/

namespace Sys2Proof

/-- One entry of PARAM_ROM (spec/10_state.md R13). The field `width` of R13 is the index `W`; `poly` is in
the MSB-first convention, its coefficient of x^W not stored. -/
structure CrcModel (W : Width) where
  poly : BitVec W.bits
  init : BitVec W.bits
  xorout : BitVec W.bits
  refin : Bool
  refout : Bool
  deriving DecidableEq, Repr

/-- PARAM_ROM: "a fixed, per-width array of named reference models" (spec/10_state.md R13, R15);
the position in a list is the `model_id`. -/
structure ParamRom where
  crc8 : List (CrcModel .w8)
  crc16 : List (CrcModel .w16)
  crc32 : List (CrcModel .w32)
  deriving DecidableEq, Repr

/-- The registers whose value some rule leaves open: one name per free value. -/
inductive FreeSite where
  /-- CRC_REG after a packet command (no rule says which value it is left with, log 8). -/
  | packetCrcReg
  /-- The registers the action `rst` leaves unspecified (spec/10_state.md R33, log 7). -/
  | crcReg
  | latchPoly
  | latchInit
  | latchXorout
  | latchRefin
  | latchRefout
  | latchRpoly
  | hash (j : Nat)
  | nbits
  | md5Buf (k : Nat)
  | md5BufLen
  | work (j : Nat)
  | result
  | digest (k : Nat)
  | tblout (i : Nat)
  | cmd
  | len
  deriving DecidableEq, Repr

/-- The free value of `site` at draw number `draw`, of any width: nothing constrains it. Assumption log
7 and 8. -/
opaque Config.free (site : FreeSite) (n : Nat) (draw : Nat) : BitVec n

/-- The free value of the width latch P_W after `rst` (spec/10_state.md R33, log 7). -/
opaque Config.freeWidth (draw : Nat) : Width

/-- REG_BASE, the open bus address of register number 0; no rule depends on it (spec/00_scope.md R5,
spec/10_state.md R30). -/
opaque Config.regBase : Nat

end Sys2Proof
end

