-- ==== Sys2Proof/Machine/Bits.lean ====
section
/-! DEFINITION. Bit and byte helpers: reflection (spec/40_bit_reflection.md), byte extraction and
little-endian assembly (spec/45_arithmetic_and_sequencing.md R160), the rotation of the MD5 step, and a
register array filled entry by entry. -/

namespace Sys2Proof.Machine

/-- `reflect_N(v)`: bit i of the image is bit N-1-i of v (spec/40_bit_reflection.md R80). -/
def reflect {n : Nat} (v : BitVec n) : BitVec n := v.reverse

/-- `rotl32(v, s)` for 1 <= s <= 31 (spec/00_scope.md R7). -/
def rotl32 (v : Word) (s : Nat) : Word := (v <<< s) ||| (v >>> (32 - s))

/-- Byte j of a value, j = 0 least significant (spec/45 R160 "byte extraction"). -/
def byteOf {n : Nat} (v : BitVec n) (j : Nat) : Byte := v.extractLsb' (8 * j) 8

/-- The low `k` bytes of a value, least significant first (spec/20_memory.md R43, R44). -/
def leBytes {n : Nat} (v : BitVec n) (k : Nat) : List Byte := (List.range k).map (byteOf v)

/-- `b0 OR (b1 << 8) OR ...` at width n (spec/45 R160 "byte assembly"). -/
def leAssemble (n : Nat) : List Byte → BitVec n
  | [] => 0
  | b :: bs => b.setWidth n ||| (leAssemble n bs <<< 8)

/-- The register array whose entry i is `f i`. -/
def tabulate {α : Type} (n : Nat) (f : Fin n → α) : Vector α n :=
  ⟨⟨(List.finRange n).map f⟩, by simp⟩

end Sys2Proof.Machine
end

