-- ==== Sys2Proof/Machine/Crc.lean ====
section
/-! DEFINITION. The two CRC engines as pure functions: the bit-serial engine in forward and mirror form
(spec/41_crc_bit_serial.md), the lookup tables and the table-driven engine (spec/42_crc_table.md), and the
choice a packet command makes between them (spec/43_packet_append_verify.md R127). Eight shifts per byte at
every width and raw-remainder tables, as spec/90_conflicts.md C1 and C2 settle. -/

namespace Sys2Proof

/-- NONMIXED(m) (spec/10_state.md R17). -/
def CrcModel.nonmixed {W : Width} (m : CrcModel W) : Bool := m.refin == m.refout

/-- Both flags of the reflection pair are set (spec/00_scope.md R8). -/
def CrcModel.bothReflected {W : Width} (m : CrcModel W) : Bool := m.refin && m.refout

/-- PALINDROMIC(m): the seed is its own reflection (spec/10_state.md R17). -/
def CrcModel.palindromic {W : Width} (m : CrcModel W) : Bool := Machine.reflect m.init == m.init

end Sys2Proof

namespace Sys2Proof.Machine

/-! ## Bit-serial engine, forward form -/

/-- One forward shift (spec/41_crc_bit_serial.md R86). -/
def fwdBit {n : Nat} (poly r : BitVec n) : BitVec n :=
  if r.msb then (r <<< 1) ^^^ poly else r <<< 1

/-- Absorb one byte: XOR it into the most significant byte position, then eight shifts (R87). -/
def fwdByte {W : Width} (m : CrcModel W) (r : BitVec W.bits) (b : Byte) : BitVec W.bits :=
  let b' := if m.refin then reflect b else b
  Nat.iterate (fwdBit m.poly) 8 (r ^^^ (b'.setWidth W.bits <<< (W.bits - 8)))

/-- The forward form over a whole message (R88). -/
def crcForward {W : Width} (m : CrcModel W) (data : List Byte) : BitVec W.bits :=
  let r := data.foldl (fwdByte m) m.init
  (if m.refout then reflect r else r) ^^^ m.xorout

/-! ## Bit-serial engine, mirror form -/

/-- One mirror shift (spec/41_crc_bit_serial.md R90). -/
def mirBit {n : Nat} (rpoly r : BitVec n) : BitVec n :=
  if r.getLsbD 0 then (r >>> 1) ^^^ rpoly else r >>> 1

/-- Absorb one byte: XOR it into bits 7..0, then eight shifts (R91). -/
def mirByte {W : Width} (m : CrcModel W) (rpoly r : BitVec W.bits) (b : Byte) : BitVec W.bits :=
  let b' := if m.refin then b else reflect b
  Nat.iterate (mirBit rpoly) 8 (r ^^^ b'.setWidth W.bits)

/-- The mirror form over a whole message (R92): the polynomial is reflected once, the seed and the final XOR
value never. -/
def crcMirror {W : Width} (m : CrcModel W) (data : List Byte) : BitVec W.bits :=
  let rpoly := reflect m.poly
  let r := data.foldl (mirByte m rpoly) m.init
  (if m.refout then r else reflect r) ^^^ m.xorout

/-! ## Lookup tables -/

/-- `tbl_entry(m, i)`: the raw remainder of the byte i, case R for a both-reflected model and case L for a
neither-reflected one (spec/42_crc_table.md R106). A mixed model has no table; no command asks for its
entries. -/
def tblEntry {W : Width} (m : CrcModel W) (i : Byte) : BitVec W.bits :=
  if m.bothReflected then
    Nat.iterate (mirBit (reflect m.poly)) 8 (i.setWidth W.bits)
  else
    Nat.iterate (fwdBit m.poly) 8 (i.setWidth W.bits <<< (W.bits - 8))

/-! ## Table-driven engine -/

/-- The right-shifting step (spec/42_crc_table.md R108); `T` is the read-only table. -/
def tblRight {n : Nat} (T : Byte → BitVec n) (r : BitVec n) (b : Byte) : BitVec n :=
  let idx := (r ^^^ b.setWidth n).setWidth 8
  (r >>> 8) ^^^ T idx

/-- The left-shifting step (R109). -/
def tblLeft {n : Nat} (T : Byte → BitVec n) (r : BitVec n) (b : Byte) : BitVec n :=
  let idx := (r >>> (n - 8)).setWidth 8 ^^^ b
  (r <<< 8) ^^^ T idx

/-- The register after the last byte, before the final XOR (R110). -/
def crcTableReg {W : Width} (m : CrcModel W) (data : List Byte) : BitVec W.bits :=
  if m.refin then data.foldl (tblRight (tblEntry m)) m.init
  else data.foldl (tblLeft (tblEntry m)) m.init

/-- The table engine over a whole message (R110). -/
def crcTable {W : Width} (m : CrcModel W) (data : List Byte) : BitVec W.bits :=
  crcTableReg m data ^^^ m.xorout

/-! ## The function of a packet command -/

/-- `pkt_crc(m, eng, payload)` (spec/43_packet_append_verify.md R127). -/
def pktCrc {W : Width} (m : CrcModel W) (eng : Engine) (payload : List Byte) : BitVec W.bits :=
  match eng with
  | .bitSerial => if m.bothReflected then crcMirror m payload else crcForward m payload
  | .table => crcTable m payload

end Sys2Proof.Machine
end

