-- ==== Sys2Proof/Machine/Rom.lean ====
section
/-! DEFINITION. The shipped content of PARAM_ROM (spec/10_state.md R16, assumption log 13) and the model
lookup (R15).
TBL is derived from the ROM (R18) and is defined in Machine/Crc.lean. -/

namespace Sys2Proof.Machine

/-- W = 8: standard, ITU, ROHC, MAXIM. -/
def shippedCrc8 : List (CrcModel .w8) :=
  [ { poly := 0x07, init := 0x00, xorout := 0x00, refin := false, refout := false },
    { poly := 0x07, init := 0x00, xorout := 0x55, refin := false, refout := false },
    { poly := 0x07, init := 0xFF, xorout := 0x00, refin := true, refout := true },
    { poly := 0x31, init := 0x00, xorout := 0x00, refin := true, refout := true } ]

/-- W = 16: IBM, MAXIM, USB, MODBUS, CCITT, CCITT-FALSE, X25, XMODEM, DNP. -/
def shippedCrc16 : List (CrcModel .w16) :=
  [ { poly := 0x8005, init := 0x0000, xorout := 0x0000, refin := true, refout := true },
    { poly := 0x8005, init := 0x0000, xorout := 0xFFFF, refin := true, refout := true },
    { poly := 0x8005, init := 0xFFFF, xorout := 0xFFFF, refin := true, refout := true },
    { poly := 0x8005, init := 0xFFFF, xorout := 0x0000, refin := true, refout := true },
    { poly := 0x1021, init := 0x0000, xorout := 0x0000, refin := true, refout := true },
    { poly := 0x1021, init := 0xFFFF, xorout := 0x0000, refin := false, refout := false },
    { poly := 0x1021, init := 0xFFFF, xorout := 0xFFFF, refin := true, refout := true },
    { poly := 0x1021, init := 0x0000, xorout := 0x0000, refin := false, refout := false },
    { poly := 0x3D65, init := 0x0000, xorout := 0xFFFF, refin := true, refout := true } ]

/-- W = 32: standard (CRC-32), MPEG-2. -/
def shippedCrc32 : List (CrcModel .w32) :=
  [ { poly := 0x04C11DB7, init := 0xFFFFFFFF, xorout := 0xFFFFFFFF, refin := true, refout := true },
    { poly := 0x04C11DB7, init := 0xFFFFFFFF, xorout := 0x00000000, refin := false, refout := false } ]

/-- The shipped value of the parameter PARAM_ROM. -/
def shippedRom : ParamRom :=
  { crc8 := shippedCrc8, crc16 := shippedCrc16, crc32 := shippedCrc32 }

/-- PARAM_ROM[W] as an array. -/
def romModels (rom : ParamRom) (W : Width) : List (CrcModel W) :=
  match W with
  | .w8 => rom.crc8
  | .w16 => rom.crc16
  | .w32 => rom.crc32

/-- PARAM_ROM[W][id]: MODEL_ID is used as is, zero-extended and not scaled (spec/30_encoding.md R66); none at
or above N_MODELS[W]. -/
def romLookup (rom : ParamRom) (W : Width) (id : Byte) : Option (CrcModel W) :=
  (romModels rom W)[id.toNat]?

end Sys2Proof.Machine
end

