-- ==== Sys2Proof/Machine/State.lean ====
section
/-! DEFINITION. The state of one ENGINE and of the HOST beside it, as plain data; the value after reset;
the faults and refusals a step can end in.

The ENGINE is described at the command level (spec/00_scope.md R6): a state is the state at a command
boundary. The HOST's operand registers, DATA, BUF and the actions it has still to take stand in the state
too, because a step is a function of the state alone. -/

namespace Sys2Proof.Machine

/-- The contents of FAULT_CODE (spec/60_exceptions.md R175); codes 6 to 15 are never produced. -/
inductive FaultCode where
  | none
  | errModel
  | errBuffer
  | errProtocol
  | errUnsupported
  | errIllegalCmd
  deriving DecidableEq, Repr

/-- MD5_ST, the lifecycle state of the MD5 context; 3 never occurs (spec/10_state.md R22). -/
inductive Md5St where
  | uninit
  | active
  | finalized
  deriving DecidableEq, Repr

/-- The parameter latches (spec/10_state.md R14), each held zero-extended to 32 bits as CRC_REG is. -/
structure Latches where
  pW : Width
  pPoly : Word
  pInit : Word
  pXorout : Word
  pRefin : Bool
  pRefout : Bool
  pRpoly : Word
  deriving DecidableEq, Repr

/-- The MD5 working registers a, b, c, d (spec/10_state.md R23), dead at every command boundary. -/
structure Work where
  a : Word
  b : Word
  c : Word
  d : Word
  deriving DecidableEq, Repr

/-- The one MD5 context of the ENGINE (spec/10_state.md R19 to R23). -/
structure Md5Context where
  /-- H[0..3]. -/
  h : Vector Word 4
  /-- NBITS, the 64-bit count of message bits. -/
  nbits : BitVec 64
  /-- MD5_BUF[0..63]. -/
  buf : Vector Byte 64
  /-- MD5_BUFLEN, a 6-bit register. -/
  bufLen : BitVec 6
  /-- MD5_ST. -/
  st : Md5St
  /-- a, b, c, d as the last block transform left them. -/
  work : Work
  deriving DecidableEq, Repr

/-- A byte space (spec/20_memory.md R40): offsets strictly rising, no cell equal to what an unlisted offset
reads as. The operations are in Machine/Memory.lean. -/
structure Memory where
  cells : List Host.Cell
  deriving DecidableEq, Repr

/-- What the HOST can do to the ENGINE, one action a step (spec/30_encoding.md R60, spec/45 R167,
spec/70 R200). It can write no register but CMD and LEN, so no other write is an action. A read of a
register has no side effect (`readReg` in Machine/Flags.lean) and is no action. -/
inductive HostAction where
  /-- Write LEN; the register keeps the low LEN_W bits (log 3). -/
  | writeLen (v : Nat)
  /-- Make a data sequence available as DATA. -/
  | supplyData (bytes : List Byte)
  /-- Hand over a packet buffer; its extent is BUF_LEN. -/
  | handBuffer (bytes : List Byte)
  /-- Write one byte of the packet buffer between two commands. -/
  | pokeBuffer (off : Nat) (v : Byte)
  /-- Write CMD, which presents the command. -/
  | command (w : Word)
  /-- The hardware reset. -/
  | rst
  deriving DecidableEq, Repr

/-- Reasons to stop. The five faults of spec/60_exceptions.md are none of these: the machine takes them and
goes on to a next state (`raise` in Machine/Ops.lean). -/
inductive Fault where
  /-- Raised by the action `pokeBuffer` when the offset is at or above BUF_LEN: the buffer has no such byte
  (spec/20_memory.md R40). No command raises it. Safe: nothing is concluded about such an access. -/
  | pokeOutsideBuffer
  deriving DecidableEq, Repr

/-- Reasons to have no meaning. -/
inductive Refusal where
  /-- Raised by an arm of `exec` for an instruction without a meaning; no arm does. Safe. -/
  | notModelled (mnemonic : String)
  deriving DecidableEq, Repr

/-- The outcome of a step of this machine. -/
abbrev Result (σ : Type) := Host.Outcome σ Fault Refusal

structure State where
  /-- PARAM_ROM, a parameter of the hardware; no step writes it. -/
  rom : ParamRom
  /-- LEN_W, the parameter that gives the width of a length operand (spec/00_scope.md R5); no step writes it. -/
  lenW : Nat
  /-- CRC_REG, physically 32 bits (spec/10_state.md R11). -/
  crcReg : Word
  /-- P_W, P_POLY, P_INIT, P_XOROUT, P_REFIN, P_REFOUT, P_RPOLY. -/
  latch : Latches
  /-- H, NBITS, MD5_BUF, MD5_BUFLEN, MD5_ST, a, b, c, d. -/
  md5 : Md5Context
  /-- STATUS.FAULT. -/
  fault : Bool
  /-- STATUS.FAULT_CODE. -/
  faultCode : FaultCode
  /-- STATUS.MATCH. -/
  matched : Bool
  /-- RESULT. -/
  result : Word
  /-- DIGEST[0..15]. -/
  digest : Vector Byte 16
  /-- TBLOUT[0..255], each entry zero-extended to 32 bits. -/
  tblout : Vector Word 256
  /-- CMD, written by the HOST only. -/
  cmd : Word
  /-- LEN, an unsigned LEN_W-bit byte count, below 2^LEN_W (`LenInv` in Safety.lean); written by the HOST
  only. -/
  len : Nat
  /-- The space DATA. -/
  data : Memory
  /-- The space BUF. -/
  buf : Memory
  /-- BUF_LEN, the extent of BUF. -/
  bufLen : Nat
  /-- The HOST's actions still to come, the next one first. -/
  host : List HostAction
  /-- The model's own counter: how many free values have been drawn (log 7, 8). -/
  draws : Nat
  deriving DecidableEq, Repr

/-- The state right after reset (spec/10_state.md R33, spec/70_reset_and_hazards.md R200): FAULT,
FAULT_CODE and MATCH are 0, MD5_ST is UNINIT; the ROM has its shipped content and LEN_W its default, 32.
Every register R33 leaves unspecified is 0 here (DESIGN CHOICE, assumption log 6); no statement rests on
those zeros. -/
def State.reset : State where
  rom := shippedRom
  lenW := 32
  crcReg := 0
  latch := { pW := .w8, pPoly := 0, pInit := 0, pXorout := 0, pRefin := false, pRefout := false, pRpoly := 0 }
  md5 :=
    { h := Vector.replicate 4 0, nbits := 0, buf := Vector.replicate 64 0, bufLen := 0, st := .uninit,
      work := { a := 0, b := 0, c := 0, d := 0 } }
  fault := false
  faultCode := .none
  matched := false
  result := 0
  digest := Vector.replicate 16 0
  tblout := Vector.replicate 256 0
  cmd := 0
  len := 0
  data := { cells := [] }
  buf := { cells := [] }
  bufLen := 0
  host := []
  draws := 0

end Sys2Proof.Machine
end

