-- ==== Sys2Proof/Machine/Flags.lean ====
section
/-! DEFINITION. The flags and what the HOST reads: the STATUS word (spec/10_state.md R25) and the register
numbers (R30). STATUS is stored as its fields; its reserved bits read 0. A read changes nothing and is legal
at every command boundary, after a fault too (spec/60_exceptions.md R183, assumption log 14). -/

namespace Sys2Proof.Machine

/-- The 4-bit code of a fault (spec/60_exceptions.md R175). -/
def FaultCode.code : FaultCode → BitVec 4
  | .none => 0
  | .errModel => 1
  | .errBuffer => 2
  | .errProtocol => 3
  | .errUnsupported => 4
  | .errIllegalCmd => 5

/-- The 2-bit code of MD5_ST (spec/10_state.md R22). -/
def Md5St.code : Md5St → BitVec 2
  | .uninit => 0
  | .active => 1
  | .finalized => 2

/-- STATUS: reserved bits, MD5_ST in 7:6, MATCH in 5, FAULT_CODE in 4:1, FAULT in 0 (spec/10_state.md R25). -/
def State.status (s : State) : Word :=
  (0 : BitVec 24) ++ s.md5.st.code ++ BitVec.ofBool s.matched ++ s.faultCode.code ++ BitVec.ofBool s.fault

/-- DIGEST as 32-bit word j: `{DIGEST[4j+3], DIGEST[4j+2], DIGEST[4j+1], DIGEST[4j]}` (R30). -/
def State.digestWord (s : State) (j : Fin 4) : Word :=
  s.digest[4 * j.val + 3]'(by omega) ++ s.digest[4 * j.val + 2]'(by omega) ++
    s.digest[4 * j.val + 1]'(by omega) ++ s.digest[4 * j.val]'(by omega)

/-- What the HOST reads from register number n (R30): CMD and LEN, numbers 0 and 1, are for writing only, and
numbers above 263 are no register; the answer is none there. -/
def State.readReg (s : State) (n : Nat) : Option Word :=
  if n = 2 then some s.status
  else if n = 3 then some s.result
  else if h : 4 ≤ n ∧ n ≤ 7 then some (s.digestWord ⟨n - 4, by omega⟩)
  else if h : 8 ≤ n ∧ n ≤ 263 then some (s.tblout[n - 8]'(by omega))
  else none

/-- The bus address of register number n, `REG_BASE + 4 * n` (R30). -/
def regAddress (n : Nat) : Nat := Config.regBase + 4 * n

end Sys2Proof.Machine
end

