-- ==== Sys2Proof/Machine/Md5Core.lean ====
section
/-! DEFINITION. The MD5 block transform and the streaming layer as functions of the MD5 context
(spec/44_md5.md): R141 to R147 for the block, R149 to R153 for the buffer, the bit count, the padding and
the digest. What the context holds besides is in assumption log 12. -/

namespace Sys2Proof.Machine

/-! ## The block transform -/

/-- The mixing function of round 1 (spec/44_md5.md R141). -/
def mixF (x y z : Word) : Word := (x &&& y) ||| (~~~x &&& z)

/-- The mixing function of round 2. -/
def mixG (x y z : Word) : Word := (x &&& z) ||| (y &&& ~~~z)

/-- The mixing function of round 3. -/
def mixH (x y z : Word) : Word := x ^^^ y ^^^ z

/-- The mixing function of round 4. -/
def mixI (x y z : Word) : Word := y ^^^ (x ||| ~~~z)

/-- `f` of step i: F, G, H, I by the round number, i divided by 16 (R145). -/
def mix (i : Fin 64) (x y z : Word) : Word :=
  match i.val / 16 with
  | 0 => mixF x y z
  | 1 => mixG x y z
  | 2 => mixH x y z
  | _ => mixI x y z

/-- K[0..15] (R142). -/
def kRound1 : List Word :=
  [0xD76AA478, 0xE8C7B756, 0x242070DB, 0xC1BDCEEE, 0xF57C0FAF, 0x4787C62A, 0xA8304613, 0xFD469501,
   0x698098D8, 0x8B44F7AF, 0xFFFF5BB1, 0x895CD7BE, 0x6B901122, 0xFD987193, 0xA679438E, 0x49B40821]

/-- K[16..31] (R142). -/
def kRound2 : List Word :=
  [0xF61E2562, 0xC040B340, 0x265E5A51, 0xE9B6C7AA, 0xD62F105D, 0x02441453, 0xD8A1E681, 0xE7D3FBC8,
   0x21E1CDE6, 0xC33707D6, 0xF4D50D87, 0x455A14ED, 0xA9E3E905, 0xFCEFA3F8, 0x676F02D9, 0x8D2A4C8A]

/-- K[32..47] (R142). -/
def kRound3 : List Word :=
  [0xFFFA3942, 0x8771F681, 0x6D9D6122, 0xFDE5380C, 0xA4BEEA44, 0x4BDECFA9, 0xF6BB4B60, 0xBEBFBC70,
   0x289B7EC6, 0xEAA127FA, 0xD4EF3085, 0x04881D05, 0xD9D4D039, 0xE6DB99E5, 0x1FA27CF8, 0xC4AC5665]

/-- K[48..63] (R142). -/
def kRound4 : List Word :=
  [0xF4292244, 0x432AFF97, 0xAB9423A7, 0xFC93A039, 0x655B59C3, 0x8F0CCC92, 0xFFEFF47D, 0x85845DD1,
   0x6FA87E4F, 0xFE2CE6E0, 0xA3014314, 0x4E0811A1, 0xF7537E82, 0xBD3AF235, 0x2AD7D2BB, 0xEB86D391]

/-- The additive constants K[0..63]. -/
def kTable : Vector Word 64 := ⟨⟨kRound1 ++ kRound2 ++ kRound3 ++ kRound4⟩, by decide⟩

/-- The rotation amount S[i]: a pattern of four per round (R143). -/
def rotAmount (i : Fin 64) : Nat :=
  match i.val / 16, i.val % 4 with
  | 0, 0 => 7
  | 0, 1 => 12
  | 0, 2 => 17
  | 0, _ => 22
  | 1, 0 => 5
  | 1, 1 => 9
  | 1, 2 => 14
  | 1, _ => 20
  | 2, 0 => 4
  | 2, 1 => 11
  | 2, 2 => 16
  | 2, _ => 23
  | _, 0 => 6
  | _, 1 => 10
  | _, 2 => 15
  | _, _ => 21

/-- The message word index g(i) (R144). -/
def msgIndex (i : Fin 64) : Fin 16 :=
  match i.val / 16 with
  | 0 => Fin.ofNat 16 i.val
  | 1 => Fin.ofNat 16 (5 * i.val + 1)
  | 2 => Fin.ofNat 16 (3 * i.val + 5)
  | _ => Fin.ofNat 16 (7 * i.val)

/-- The message word M[j]: four block bytes, little-endian (R147). -/
def msgWord (blk : Vector Byte 64) (j : Fin 16) : Word :=
  leAssemble 32
    [blk[4 * j.val]'(by omega), blk[4 * j.val + 1]'(by omega), blk[4 * j.val + 2]'(by omega),
      blk[4 * j.val + 3]'(by omega)]

/-- One step of the state machine (R145): only b receives a computed value, the others move one place. -/
def md5Step (blk : Vector Byte 64) (q : Work) (i : Fin 64) : Work :=
  let f := mix i q.b q.c q.d
  let t := q.a + f + kTable[i] + msgWord blk (msgIndex i)
  { a := q.d, b := q.b + rotl32 t (rotAmount i), c := q.b, d := q.c }

/-- The working registers after the 64 steps on a block, started from the hash (R146). -/
def md5Rounds (h : Vector Word 4) (blk : Vector Byte 64) : Work :=
  (List.finRange 64).foldl (md5Step blk) { a := h[0], b := h[1], c := h[2], d := h[3] }

/-- The final addition of the input hash (R146). -/
def addHash (h : Vector Word 4) (q : Work) : Vector Word 4 :=
  #v[h[0] + q.a, h[1] + q.b, h[2] + q.c, h[3] + q.d]

/-- The block transform `md5_block(Hin, blk)` (R146). -/
def md5Block (h : Vector Word 4) (blk : Vector Byte 64) : Vector Word 4 := addHash h (md5Rounds h blk)

/-! ## The streaming layer -/

/-- The four initial hash words (R148). -/
def md5InitialHash : Vector Word 4 := #v[0x67452301, 0xEFCDAB89, 0x98BADCFE, 0x10325476]

/-- `H <- md5_block(H, MD5_BUF); MD5_BUFLEN <- 0` (R149). -/
def Md5Context.transform (c : Md5Context) : Md5Context :=
  let q := md5Rounds c.h c.buf
  { c with h := addHash c.h q, work := q, bufLen := 0 }

/-- `push(v)` (R150): store a byte at MD5_BUFLEN; the 64th byte consumes the block. NBITS is not touched. -/
def Md5Context.push (c : Md5Context) (v : Byte) : Md5Context :=
  let stored := { c with buf := c.buf.set c.bufLen.toNat v c.bufLen.isLt }
  if c.bufLen.toNat + 1 = 64 then stored.transform else { stored with bufLen := c.bufLen + 1 }

/-- One byte of a message (R149): pushed, and counted as eight bits modulo 2^64. -/
def Md5Context.absorb (c : Md5Context) (v : Byte) : Md5Context :=
  let pushed := c.push v
  { pushed with nbits := c.nbits + 8 }

/-- The effect of `md5_init` on the context (R148): MD5_BUF and a, b, c, d are left as they are. -/
def Md5Context.init (c : Md5Context) : Md5Context :=
  { c with h := md5InitialHash, nbits := 0, bufLen := 0, st := .active }

/-- The effect of `md5_update` on the context (R149). -/
def Md5Context.update (c : Md5Context) (data : List Byte) : Md5Context := data.foldl Md5Context.absorb c

/-- `while MD5_BUFLEN != 56: push(0x00)`, for at most `k` bytes (R150). -/
def Md5Context.zeroFill (c : Md5Context) : Nat → Md5Context
  | 0 => c
  | k + 1 => if c.bufLen = 56 then c else (c.push 0).zeroFill k

/-- The effect of `md5_final` on the context (R150). At most 63 zero bytes follow the 0x80 byte
(spec/45 R163). -/
def Md5Context.final (c : Md5Context) : Md5Context :=
  let padded := (c.push 0x80).zeroFill 63
  let counted := (leBytes c.nbits 8).foldl Md5Context.push padded
  { counted with st := .finalized }

/-- `DIGEST[4j + m] <- H[j][8m+7 : 8m]` (R150, R153). -/
def digestOf (h : Vector Word 4) : Vector Byte 16 :=
  tabulate 16 fun k => byteOf (h[k.val / 4]'(by omega)) (k.val % 4)

end Sys2Proof.Machine
end

