-- ==== Sys2Proof/Machine/Memory.lean ====
section
/-! DEFINITION. The byte spaces DATA and BUF (spec/20_memory.md R40 to R42): the only access is one byte at
a byte offset, `MemRead` and `MemWrite` of R41; wider values are built from these in Machine/Operands.lean. -/

namespace Sys2Proof.Machine

/-- What an offset that is not listed reads as (DESIGN CHOICE, assumption log 5). -/
def Memory.unlisted : Byte := 0

/-- The space with nothing listed. -/
def Memory.empty : Memory := { cells := [] }

/-- The byte at an offset in a list of cells. -/
def readCells : List Host.Cell → Nat → Byte
  | [], _ => Memory.unlisted
  | (b, u) :: cs, a => if a = b then u else readCells cs a

/-- The cells with one byte replaced; the byte an unlisted offset reads as is not listed. -/
def writeCells : List Host.Cell → Nat → Byte → List Host.Cell
  | [], a, v => if v = Memory.unlisted then [] else [(a, v)]
  | (b, u) :: cs, a, v =>
    if a < b then
      if v = Memory.unlisted then (b, u) :: cs else (a, v) :: (b, u) :: cs
    else if a = b then
      if v = Memory.unlisted then cs else (a, v) :: cs
    else (b, u) :: writeCells cs a v

/-- `MemRead(m, off, 1)` (spec/20_memory.md R41). -/
def Memory.read (m : Memory) (off : Nat) : Byte := readCells m.cells off

/-- `MemWrite(m, off, 1, v)` (spec/20_memory.md R41). -/
def Memory.write (m : Memory) (off : Nat) (v : Byte) : Memory := { cells := writeCells m.cells off v }

/-- The `n` bytes from `off` on, in ascending order (spec/20_memory.md R42, R51). -/
def Memory.readBytes (m : Memory) (off n : Nat) : List Byte :=
  (List.range n).map fun k => m.read (off + k)

/-- Single-byte writes in ascending offset order (spec/20_memory.md R48). -/
def Memory.writeBytes (m : Memory) (off : Nat) : List Byte → Memory
  | [] => m
  | b :: bs => (m.write off b).writeBytes (off + 1) bs

/-- The space whose bytes from offset 0 on are those given. -/
def Memory.ofBytes (bytes : List Byte) : Memory := Memory.empty.writeBytes 0 bytes

/-- The canonical form of a list of cells: offsets strictly rising, no cell equal to what an unlisted offset
reads as. -/
def cellsCanonical (cs : List Host.Cell) : Bool :=
  decide (cs.Pairwise fun c d => c.1 < d.1) && cs.all fun c => c.2 != Memory.unlisted

/-- The canonical form of a space. -/
def Memory.wf (m : Memory) : Bool := cellsCanonical m.cells

end Sys2Proof.Machine
end

