-- ==== Sys2Proof/Machine/Operands.lean ====
section
/-! DEFINITION. The operands of a command (spec/30_encoding.md R68, spec/45_arithmetic_and_sequencing.md R166):
the data sequence, the packet's payload and trailer, and the length tests of spec/60_exceptions.md R179. -/

namespace Sys2Proof.Machine

/-- The trailer size `T = W / 8` (spec/43_packet_append_verify.md R125). -/
def trailerSize (W : Width) : Nat := W.bits / 8

/-- The data sequence of a command: DATA[0 .. LEN-1], so its length is LEN by construction
(spec/20_memory.md R42). -/
def State.dataBytes (s : State) : List Byte := s.data.readBytes 0 s.len

/-- `LEN >= 1`, the minimum of the compute commands (spec/41_crc_bit_serial.md R94). -/
def State.hasData (s : State) : Bool := decide (s.len ≠ 0)

/-- The offset L-T of the trailer (spec/43_packet_append_verify.md R126). -/
def State.trailerOffset (s : State) (W : Width) : Nat := s.len - trailerSize W

/-- The payload, BUF[0 .. L-T-1] (R126). -/
def State.payload (s : State) (W : Width) : List Byte := s.buf.readBytes 0 (s.trailerOffset W)

/-- The value stored in the trailer, little-endian (R129). -/
def State.trailerValue (s : State) (W : Width) : BitVec W.bits :=
  leAssemble W.bits (s.buf.readBytes (s.trailerOffset W) (trailerSize W))

/-- The length tests of a packet command, `T < LEN <= BUF_LEN` (R130 items 2 and 3). -/
def State.packetFits (s : State) (W : Width) : Bool :=
  decide (trailerSize W < s.len ∧ s.len ≤ s.bufLen)

/-- BUF with a CRC value written into the trailer, least significant byte first (R128). -/
def State.bufWithTrailer (s : State) (W : Width) (c : BitVec W.bits) : Memory :=
  s.buf.writeBytes (s.trailerOffset W) (leBytes c (trailerSize W))

end Sys2Proof.Machine
end

