-- ==== Sys2Proof/Machine/Ops.lean ====
section
/-! DEFINITION. The operations the commands share: fault entry and its way back, the checks every command
passes in the order of spec/60_exceptions.md R181, the parameter latches, the register updates, and the
HOST's actions. -/

namespace Sys2Proof.Machine

/-! ## Register updates -/

/-- CRC_REG is written. -/
def State.setCrcReg (s : State) (v : Word) : State := { s with crcReg := v }

/-- RESULT is written. -/
def State.setResult (s : State) (v : Word) : State := { s with result := v }

/-- STATUS.MATCH is written. -/
def State.setMatched (s : State) (v : Bool) : State := { s with matched := v }

/-- TBLOUT is written. -/
def State.setTblout (s : State) (v : Vector Word 256) : State := { s with tblout := v }

/-- DIGEST is written. -/
def State.setDigest (s : State) (v : Vector Byte 16) : State := { s with digest := v }

/-- The MD5 context is written. -/
def State.setMd5 (s : State) (v : Md5Context) : State := { s with md5 := v }

/-- BUF is written. -/
def State.setBuf (s : State) (v : Memory) : State := { s with buf := v }

/-- CRC_REG is left with a value no rule gives: a free value of W bits, zero-extended
(spec/10_state.md R11, assumption log 8). -/
def State.freeCrcReg (s : State) (W : Width) : State :=
  { s with crcReg := (Config.free .packetCrcReg W.bits s.draws).setWidth 32, draws := s.draws + 1 }

/-- The parameter latches are loaded (spec/10_state.md R14); P_RPOLY only by a command that runs a
right-shifting datapath (DEDUCED, assumption log 10). -/
def State.loadLatches {W : Width} (s : State) (m : CrcModel W) (rightShifting : Bool) : State :=
  { s with
    latch :=
      { pW := W
        pPoly := m.poly.setWidth 32
        pInit := m.init.setWidth 32
        pXorout := m.xorout.setWidth 32
        pRefin := m.refin
        pRefout := m.refout
        pRpoly := if rightShifting then (reflect m.poly).setWidth 32 else s.latch.pRpoly } }

/-! ## Fault entry and the way back -/

/-- `raise E` (spec/60_exceptions.md R182): FAULT and FAULT_CODE are written, nothing else. -/
def raise (e : FaultCode) (s : State) : State := { s with fault := true, faultCode := e }

/-- `rst` (spec/70_reset_and_hazards.md R200), the only way out of a fault (spec/60 R184). The registers it
leaves unspecified (spec/10_state.md R33) get free values (assumption log 7); the ROM, DATA, BUF and the
HOST's own actions are untouched. -/
def State.rst (s : State) : State :=
  let n := s.draws
  { s with
    fault := false
    faultCode := .none
    matched := false
    md5 :=
      { h := tabulate 4 fun j => Config.free (.hash j.val) 32 n
        nbits := Config.free .nbits 64 n
        buf := tabulate 64 fun k => Config.free (.md5Buf k.val) 8 n
        bufLen := Config.free .md5BufLen 6 n
        st := .uninit
        work :=
          { a := Config.free (.work 0) 32 n
            b := Config.free (.work 1) 32 n
            c := Config.free (.work 2) 32 n
            d := Config.free (.work 3) 32 n } }
    crcReg := Config.free .crcReg 32 n
    latch :=
      { pW := Config.freeWidth n
        pPoly := Config.free .latchPoly 32 n
        pInit := Config.free .latchInit 32 n
        pXorout := Config.free .latchXorout 32 n
        pRefin := (Config.free .latchRefin 1 n).getLsbD 0
        pRefout := (Config.free .latchRefout 1 n).getLsbD 0
        pRpoly := Config.free .latchRpoly 32 n }
    result := Config.free .result 32 n
    digest := tabulate 16 fun k => Config.free (.digest k.val) 8 n
    tblout := tabulate 256 fun i => Config.free (.tblout i.val) 32 n
    cmd := Config.free .cmd 32 n
    len := (Config.free .len s.lenW n).toNat
    draws := n + 1 }

/-! ## The checks -/

/-- While FAULT = 1 every command is ignored (spec/60_exceptions.md R183). -/
def unlessStuck (s : State) (command : Result State) : Result State :=
  if s.fault then .next s else command

/-- A CRC command: the model is looked up, then its reflection pair is inspected where the command needs it
equal, then the length; only then does the command write anything (spec/60_exceptions.md R181, R182). -/
def crcCommand (W : Width) (id : Byte) (needsNonmixed lengthOk : Bool) (s : State)
    (effect : CrcModel W → State) : Result State :=
  unlessStuck s <|
    match romLookup s.rom W id with
    | none => .next (raise .errModel s)
    | some m =>
      if needsNonmixed && !m.nonmixed then .next (raise .errUnsupported s)
      else if lengthOk then .next (effect m)
      else .next (raise .errBuffer s)

/-- An MD5 command: legal in every MD5_ST or in ACTIVE only (spec/44_md5.md R154). -/
def md5Command (needsActive : Bool) (s : State) (effect : State) : Result State :=
  unlessStuck s <|
    if needsActive && s.md5.st != .active then .next (raise .errProtocol s) else .next effect

/-- A word that matches no row (spec/60_exceptions.md R176), whatever the reason. -/
def rejectCommand (_ : Reject) (s : State) : Result State :=
  unlessStuck s <| .next (raise .errIllegalCmd s)

/-! ## The HOST's actions -/

/-- The HOST takes its next action off the list of those to come. -/
def State.hostMoved (s : State) (rest : List HostAction) : State := { s with host := rest }

/-- The HOST writes CMD and so presents a command (spec/30_encoding.md R60). -/
def State.present (s : State) (w : Word) : State := { s with cmd := w }

/-- The HOST writes LEN, a register of LEN_W bits (spec/10_state.md R29, spec/30_encoding.md R68). -/
def State.writeLen (s : State) (v : Nat) : State := { s with len := v % 2 ^ s.lenW }

/-- The HOST makes a data sequence available. -/
def State.supplyData (s : State) (bytes : List Byte) : State := { s with data := Memory.ofBytes bytes }

/-- The HOST hands over a packet buffer; BUF_LEN is its extent (spec/92_eei_decisions.md D30). -/
def State.handBuffer (s : State) (bytes : List Byte) : State :=
  { s with buf := Memory.ofBytes bytes, bufLen := bytes.length }

/-- The HOST writes a byte of its own buffer between two commands; the buffer has no byte at or above
BUF_LEN (assumption log 4). -/
def pokeBuffer (off : Nat) (v : Byte) (s : State) : Result State :=
  if off < s.bufLen then .next { s with buf := s.buf.write off v } else .fault .pokeOutsideBuffer

end Sys2Proof.Machine
end

