-- ==== Sys2Proof/Machine/BitSerial.lean ====
section
/-! DEFINITION. The bit-serial CRC commands (spec/41_crc_bit_serial.md R94 to R100). -/

namespace Sys2Proof.Machine

/-- A CRC value is left in CRC_REG and RESULT, zero-extended (R95; for CRC_REG assumption log 9). -/
def State.leaveCrc {n : Nat} (s : State) (c : BitVec n) : State :=
  (s.setCrcReg (c.setWidth 32)).setResult (c.setWidth 32)

/-- `crcN_compute`: the forward form, for every reflection pair (R94). -/
def computeForward (W : Width) (id : Byte) (s : State) : Result State :=
  crcCommand W id false s.hasData s fun m => (s.loadLatches m false).leaveCrc (crcForward m s.dataBytes)

/-- `crcN_compute_mirror`: the mirror form; a mixed model is refused with ERR_UNSUPPORTED (R94). -/
def computeMirror (W : Width) (id : Byte) (s : State) : Result State :=
  crcCommand W id true s.hasData s fun m => (s.loadLatches m true).leaveCrc (crcMirror m s.dataBytes)

/-- R95. -/
def execCrc8Compute (id : Byte) (s : State) : Result State := computeForward .w8 id s

/-- R96. -/
def execCrc16Compute (id : Byte) (s : State) : Result State := computeForward .w16 id s

/-- R97. -/
def execCrc32Compute (id : Byte) (s : State) : Result State := computeForward .w32 id s

/-- R98. -/
def execCrc8ComputeMirror (id : Byte) (s : State) : Result State := computeMirror .w8 id s

/-- R99. -/
def execCrc16ComputeMirror (id : Byte) (s : State) : Result State := computeMirror .w16 id s

/-- R100. -/
def execCrc32ComputeMirror (id : Byte) (s : State) : Result State := computeMirror .w32 id s

end Sys2Proof.Machine
end

