-- ==== Sys2Proof/Machine/Md5.lean ====
section
/-! DEFINITION. The MD5 commands (spec/44_md5.md R148 to R155). -/

namespace Sys2Proof.Machine

/-- R148: legal in every MD5_ST. -/
def execMd5Init (s : State) : Result State := md5Command false s (s.setMd5 s.md5.init)

/-- R149: a zero-length update is legal. -/
def execMd5Update (s : State) : Result State := md5Command true s (s.setMd5 (s.md5.update s.dataBytes))

/-- R150. -/
def execMd5Final (s : State) : Result State :=
  md5Command true s ((s.setMd5 s.md5.final).setDigest (digestOf s.md5.final.h))

end Sys2Proof.Machine
end

