-- ==== Sys2Proof/Machine/Packet.lean ====
section
/-! DEFINITION. Packet append and verify (spec/43_packet_append_verify.md R127 to R136). -/

namespace Sys2Proof.Machine

/-- Only the table engine needs the reflection pair equal (R130 item 1). -/
def needsTable : Engine → Bool
  | .bitSerial => false
  | .table => true

/-- `crcN_append` (R128): all payload reads come before the trailer writes. -/
def appendTrailer (W : Width) (id : Byte) (eng : Engine) (s : State) : Result State :=
  crcCommand W id (needsTable eng) (s.packetFits W) s fun m =>
    let c := pktCrc m eng (s.payload W)
    ((((s.loadLatches m m.bothReflected).freeCrcReg W).setBuf (s.bufWithTrailer W c)).setResult (c.setWidth 32))

/-- `crcN_verify` (R129): a mismatch is a result, not a fault. -/
def verifyTrailer (W : Width) (id : Byte) (eng : Engine) (s : State) : Result State :=
  crcCommand W id (needsTable eng) (s.packetFits W) s fun m =>
    let same := pktCrc m eng (s.payload W) == s.trailerValue W
    ((((s.loadLatches m m.bothReflected).freeCrcReg W).setResult (if same then 1 else 0)).setMatched same)

/-- R131. -/
def execCrc8Append (id : Byte) (eng : Engine) (s : State) : Result State := appendTrailer .w8 id eng s

/-- R132. -/
def execCrc16Append (id : Byte) (eng : Engine) (s : State) : Result State := appendTrailer .w16 id eng s

/-- R133. -/
def execCrc32Append (id : Byte) (eng : Engine) (s : State) : Result State := appendTrailer .w32 id eng s

/-- R134. -/
def execCrc8Verify (id : Byte) (eng : Engine) (s : State) : Result State := verifyTrailer .w8 id eng s

/-- R135. -/
def execCrc16Verify (id : Byte) (eng : Engine) (s : State) : Result State := verifyTrailer .w16 id eng s

/-- R136. -/
def execCrc32Verify (id : Byte) (eng : Engine) (s : State) : Result State := verifyTrailer .w32 id eng s

end Sys2Proof.Machine
end

