-- ==== Sys2Proof/Machine/TableDriven.lean ====
section
/-! DEFINITION. The table-driven CRC commands and the table read-out (spec/42_crc_table.md R112 to R118). -/

namespace Sys2Proof.Machine

/-- The register before the final XOR is left in CRC_REG, the CRC in RESULT (R113 to R115;
assumption log 9). -/
def State.leaveTableCrc {W : Width} (s : State) (m : CrcModel W) (data : List Byte) : State :=
  (s.setCrcReg ((crcTableReg m data).setWidth 32)).setResult ((crcTable m data).setWidth 32)

/-- TBL[W][id] zero-extended, as the HOST reads it from TBLOUT (R107, spec/10_state.md R28). -/
def tableImage {W : Width} (m : CrcModel W) : Vector Word 256 :=
  tabulate 256 fun i => (tblEntry m (BitVec.ofNat 8 i.val)).setWidth 32

/-- `crcN_compute_table` (R110, R112). -/
def computeTable (W : Width) (id : Byte) (s : State) : Result State :=
  crcCommand W id true s.hasData s fun m => (s.loadLatches m m.refin).leaveTableCrc m s.dataBytes

/-- `crcN_generate_table`: takes no data and has no length check (R107, R112). -/
def generateTable (W : Width) (id : Byte) (s : State) : Result State :=
  crcCommand W id true true s fun m => (s.loadLatches m m.refin).setTblout (tableImage m)

/-- R113. -/
def execCrc8ComputeTable (id : Byte) (s : State) : Result State := computeTable .w8 id s

/-- R114. -/
def execCrc16ComputeTable (id : Byte) (s : State) : Result State := computeTable .w16 id s

/-- R115. -/
def execCrc32ComputeTable (id : Byte) (s : State) : Result State := computeTable .w32 id s

/-- R116. -/
def execCrc8GenerateTable (id : Byte) (s : State) : Result State := generateTable .w8 id s

/-- R117. -/
def execCrc16GenerateTable (id : Byte) (s : State) : Result State := generateTable .w16 id s

/-- R118. -/
def execCrc32GenerateTable (id : Byte) (s : State) : Result State := generateTable .w32 id s

end Sys2Proof.Machine
end

