-- ==== Sys2Proof/Machine/Dispatch.lean ====
section
/-! DEFINITION. The dispatch from an instruction to its meaning. -/

namespace Sys2Proof.Machine

def exec (i : Instr) (s : State) : Host.Outcome State Fault Refusal :=
  match i with
  | .crc8Compute id => Sys2Proof.Machine.execCrc8Compute id s
  | .crc16Compute id => Sys2Proof.Machine.execCrc16Compute id s
  | .crc32Compute id => Sys2Proof.Machine.execCrc32Compute id s
  | .crc8ComputeMirror id => Sys2Proof.Machine.execCrc8ComputeMirror id s
  | .crc16ComputeMirror id => Sys2Proof.Machine.execCrc16ComputeMirror id s
  | .crc32ComputeMirror id => Sys2Proof.Machine.execCrc32ComputeMirror id s
  | .crc8ComputeTable id => Sys2Proof.Machine.execCrc8ComputeTable id s
  | .crc16ComputeTable id => Sys2Proof.Machine.execCrc16ComputeTable id s
  | .crc32ComputeTable id => Sys2Proof.Machine.execCrc32ComputeTable id s
  | .crc8GenerateTable id => Sys2Proof.Machine.execCrc8GenerateTable id s
  | .crc16GenerateTable id => Sys2Proof.Machine.execCrc16GenerateTable id s
  | .crc32GenerateTable id => Sys2Proof.Machine.execCrc32GenerateTable id s
  | .crc8Append id eng => Sys2Proof.Machine.execCrc8Append id eng s
  | .crc16Append id eng => Sys2Proof.Machine.execCrc16Append id eng s
  | .crc32Append id eng => Sys2Proof.Machine.execCrc32Append id eng s
  | .crc8Verify id eng => Sys2Proof.Machine.execCrc8Verify id eng s
  | .crc16Verify id eng => Sys2Proof.Machine.execCrc16Verify id eng s
  | .crc32Verify id eng => Sys2Proof.Machine.execCrc32Verify id eng s
  | .md5Init => Sys2Proof.Machine.execMd5Init s
  | .md5Update => Sys2Proof.Machine.execMd5Update s
  | .md5Final => Sys2Proof.Machine.execMd5Final s

end Sys2Proof.Machine
end

