-- ==== Sys2Proof/Machine/Step.lean ====
section
/-! DEFINITION. One step: the HOST's next action, and for a command presented, the command itself
(spec/00_scope.md R6: one command is one transition). There is no program counter and no instruction memory
(spec/10_state.md R12): a program is the list of the HOST's actions (assumption log 1). With no action to
come the ENGINE stays as it is. -/

namespace Sys2Proof.Machine

/-- The word in CMD is decoded and the instruction runs, or the word is rejected. -/
def runCommand (s : State) : Result State :=
  match decode s.cmd with
  | .ok i => exec i s
  | .error r => rejectCommand r s

/-- One step of the machine. -/
def step (s : State) : Host.Outcome State Fault Refusal :=
  match s.host with
  | [] => .next s
  | .writeLen v :: rest => .next ((s.hostMoved rest).writeLen v)
  | .supplyData bytes :: rest => .next ((s.hostMoved rest).supplyData bytes)
  | .handBuffer bytes :: rest => .next ((s.hostMoved rest).handBuffer bytes)
  | .pokeBuffer off v :: rest => pokeBuffer off v (s.hostMoved rest)
  | .command w :: rest => runCommand ((s.hostMoved rest).present w)
  | .rst :: rest => .next (s.hostMoved rest).rst

/-- The state with a command word as the HOST's very next action; LEN, DATA and BUF stay as they are. -/
def State.withFetchWord (s : State) (nbits w : Nat) : State :=
  { s with host := .command (BitVec.ofNat 32 (w % 2 ^ nbits)) :: s.host }

end Sys2Proof.Machine
end

