-- ==== Sys2Proof/Safety.lean ====
section
/-! DEFINITION. What holds at every command boundary, in the terms the claims use. -/

namespace Sys2Proof.Machine

/-- FAULT_CODE is 0 exactly when FAULT is 0 (spec/10_state.md R25, spec/60_exceptions.md R175). -/
abbrev StatusInv (s : State) : Prop := s.fault = false ↔ s.faultCode = .none

/-- In ACTIVE the fill count is `(NBITS / 8) mod 64`, also after NBITS has wrapped, and NBITS counts whole
bytes (spec/10_state.md R20, R21). -/
abbrev Md5Inv (c : Md5Context) : Prop :=
  c.st = .active → c.bufLen.toNat = c.nbits.toNat / 8 % 64 ∧ c.nbits.toNat % 8 = 0

/-- DATA and BUF are in canonical form and BUF lists no byte at or above BUF_LEN (spec/20_memory.md R40). -/
abbrev SpacesInv (s : State) : Prop :=
  s.data.wf = true ∧ s.buf.wf = true ∧ ∀ cell ∈ s.buf.cells, cell.1 < s.bufLen

/-- LEN holds a value of LEN_W bits (spec/10_state.md R29, spec/30_encoding.md R68). -/
abbrev LenInv (s : State) : Prop := s.len < 2 ^ s.lenW

/-- The invariant of a command boundary. -/
abbrev Inv (s : State) : Prop := StatusInv s ∧ Md5Inv s.md5 ∧ SpacesInv s ∧ LenInv s

/-- The state in which the HOST has supplied `data` as DATA and its length as LEN, as the actions `supplyData`
and `writeLen` leave it. -/
def State.withData (s : State) (data : List Byte) : State :=
  (s.supplyData data).writeLen data.length

end Sys2Proof.Machine
end

