-- ==== Sys2Proof/Certificates/Slice0/Obligations.lean ====
section
/-! DEFINITION. The statements for the provers. Each docstring names the rule of the spec it formalises. The
families crcN_... are written `Instr.compute W id` and so on, W the width N stands for. -/

open Sys2Proof Sys2Proof.Machine

/-! ## Encoding -/

/-- The word of every instruction, with every MODEL_ID and either ENG, decodes to it
(spec/30_encoding.md R61, R71, R72). -/
def Obligations.DecodeOfEncodeIsIdentity : Prop :=
  ∀ i : Instr, decode (encode i) = .ok i

/-- A word that decodes is the word of the instruction it decodes to: no second word, no dropped bit
(spec/30_encoding.md R67, R72). -/
def Obligations.DecodedWordEncodesBack : Prop :=
  ∀ (w : Word) (i : Instr), decode w = .ok i → encode i = w

/-- A word selects a row iff it decodes to the instruction of that row; the rows are disjoint; a word that
selects none is rejected; MODEL_ID and ENG are read from their fields (spec/30_encoding.md R61, R72). -/
def Obligations.WordSelectsARowIffItDecodesToIt : Prop :=
  (∀ (w : Word) (r : OpcodeRow), r ∈ opcodeRows →
    (r.selects w = true ↔ ∃ i, decode w = .ok i ∧ i.mnemonic = r.mnemonic)) ∧
  (∀ (w : Word) (r r' : OpcodeRow), r ∈ opcodeRows → r' ∈ opcodeRows → r.selects w = true →
    r'.selects w = true → r = r') ∧
  (∀ w : Word, (∀ r ∈ opcodeRows, r.selects w = false) → ∃ e, decode w = .error e) ∧
  (∀ (w : Word) (i : Instr) (W : Width) (id : Byte), decode w = .ok i → i.model = some (W, id) →
    id = w.extractLsb' 8 8) ∧
  (∀ (w : Word) (W : Width) (id : Byte) (eng : Engine),
    decode w = .ok (.append W id eng) ∨ decode w = .ok (.verify W id eng) →
    (eng = .table ↔ w.getLsbD 7 = true))

/-- The command words the spec writes out decode to the commands it names (spec/30_encoding.md R72 and
spec/95_test_vectors.md sections 2.4, 2.6 and 3). -/
def Obligations.WordsWrittenInTheSpecDecode : Prop :=
  decode 0x00000311 = .ok (.crc16Compute 3) ∧
  decode 0x00000351 = .ok (.crc16ComputeMirror 3) ∧
  decode 0x00000022 = .ok (.crc32ComputeTable 0) ∧
  decode 0x00000313 = .ok (.crc16GenerateTable 3) ∧
  decode 0x00000594 = .ok (.crc16Append 5 .table) ∧
  decode 0x00000105 = .ok (.crc8Verify 1 .bitSerial) ∧
  decode 0x00000008 = .ok .md5Init ∧
  decode 0x00000009 = .ok .md5Update ∧
  decode 0x0000000A = .ok .md5Final

/-- A word decodes to no instruction exactly in the cases spec/60_exceptions.md R176 lists, and with such a word
in CMD the command raises ERR_ILLEGAL_CMD, code 5, and changes nothing else (R176). -/
def Obligations.IllegalWordsAreExactlyTheListedOnes : Prop :=
  (∀ w : Word,
    (∀ i, decode w ≠ .ok i) ↔
      (w.extractLsb' 16 16 ≠ 0 ∨
       w.extractLsb' 0 4 ∈ [0x0#4, 0x6#4, 0x7#4, 0xB#4, 0xC#4, 0xD#4, 0xE#4, 0xF#4] ∨
       (w.extractLsb' 4 2 = 3#2 ∧ w.extractLsb' 0 4 ∈ [0x1#4, 0x2#4, 0x3#4, 0x4#4, 0x5#4]) ∨
       ((w.getLsbD 6 = true ∨ w.getLsbD 7 = true) ∧ w.extractLsb' 0 4 ∈ [0x2#4, 0x3#4]) ∨
       (w.getLsbD 7 = true ∧ w.extractLsb' 0 4 = 0x1#4) ∨
       (w.getLsbD 6 = true ∧ w.extractLsb' 0 4 ∈ [0x4#4, 0x5#4]) ∨
       ((w.extractLsb' 4 2 ≠ 0 ∨ w.getLsbD 6 = true ∨ w.getLsbD 7 = true ∨ w.extractLsb' 8 8 ≠ 0) ∧
         w.extractLsb' 0 4 ∈ [0x8#4, 0x9#4, 0xA#4]))) ∧
  FaultCode.errIllegalCmd.code = 5 ∧
  (∀ s : State, s.fault = false → (∀ i, decode s.cmd ≠ .ok i) →
    runCommand s = .next { s with fault := true, faultCode := .errIllegalCmd })

/-! ## The step -/

/-- A step takes the HOST's next action: with a command word, CMD holds the word and the instruction it decodes to
runs; a word that decodes to none raises ERR_ILLEGAL_CMD, or is ignored where FAULT is 1 (spec/30_encoding.md R60,
R71, spec/60_exceptions.md R176, R183). Writing LEN (its low LEN_W bits), DATA, BUF or a byte of BUF does that; with
no action to come nothing happens. The model's choices: how a program reaches the ENGINE and that a write of CMD
lands whatever FAULT is (assumption log 1), that a wider value written to LEN is cut to LEN_W bits (log 3), that the
length of the buffer handed over is BUF_LEN and a poke at or above it is the fault pokeOutsideBuffer (log 4). -/
def Obligations.StepRunsTheDecodedCommand : Prop :=
  (∀ (s : State) (w : Word) (rest : List HostAction), s.host = .command w :: rest →
    (∀ i, decode w = .ok i → step s = exec i { s with host := rest, cmd := w }) ∧
    ((∀ i, decode w ≠ .ok i) →
      (s.fault = false →
        step s = .next { s with host := rest, cmd := w, fault := true, faultCode := .errIllegalCmd }) ∧
      (s.fault = true → step s = .next { s with host := rest, cmd := w }))) ∧
  (∀ (s : State) (v : Nat) (rest : List HostAction), s.host = .writeLen v :: rest →
    step s = .next { s with host := rest, len := v % 2 ^ s.lenW }) ∧
  (∀ (s : State) (d : List Byte) (rest : List HostAction), s.host = .supplyData d :: rest →
    step s = .next { s with host := rest, data := Memory.ofBytes d }) ∧
  (∀ (s : State) (d : List Byte) (rest : List HostAction), s.host = .handBuffer d :: rest →
    step s = .next { s with host := rest, buf := Memory.ofBytes d, bufLen := d.length }) ∧
  (∀ (s : State) (off : Nat) (v : Byte) (rest : List HostAction), s.host = .pokeBuffer off v :: rest →
    (off < s.bufLen → step s = .next { s with host := rest, buf := s.buf.write off v }) ∧
    (s.bufLen ≤ off → step s = .fault .pokeOutsideBuffer)) ∧
  (∀ s : State, s.host = [] → step s = .next s)

/-- Every command answers a next state in every state: nothing but the five faults can fail
(spec/60_exceptions.md R175), and those are taken. -/
def Obligations.EveryCommandAnswersANextState : Prop :=
  ∀ (i : Instr) (s : State), ∃ t, exec i s = .next t

/-! ## Faults -/

/-- Fault entry sets FAULT, puts a code that is not 0 into FAULT_CODE and writes no other state: for every
instruction, and for every word in CMD, a word that does not decode among them (spec/60_exceptions.md R182). -/
def Obligations.FaultEntryWritesOnlyTheFaultFields : Prop :=
  ∀ s t : State, s.fault = false → t.fault = true →
    ((∃ i, exec i s = .next t) ∨ runCommand s = .next t) →
    t.faultCode.code ≠ 0 ∧ t = { s with fault := true, faultCode := t.faultCode }

/-- While FAULT = 1 every command presented, legal or not, is ignored: no instruction and no word in CMD changes
any state, so every register the HOST can read keeps its value (spec/60_exceptions.md R183). -/
def Obligations.StuckEngineIgnoresEveryCommand : Prop :=
  ∀ s : State, s.fault = true →
    (∀ i : Instr, exec i s = .next s) ∧
    (∀ w : Word, ∃ t, runCommand (s.present w) = .next t ∧ t = s.present w ∧ ∀ n, t.readReg n = s.readReg n)

/-- ERR_MODEL, code 1: every CRC command whose MODEL_ID is not below N_MODELS[W], with the shipped ROM above 3,
8 and 1; the MD5 commands cannot raise it (spec/60_exceptions.md R177). -/
def Obligations.UnknownModelRaisesErrModel : Prop :=
  FaultCode.errModel.code = 1 ∧
  (∀ (i : Instr) (W : Width) (id : Byte) (s : State), i.model = some (W, id) → s.fault = false →
    (romModels s.rom W).length ≤ id.toNat →
    exec i s = .next { s with fault := true, faultCode := .errModel }) ∧
  (∀ (i : Instr) (W : Width) (id : Byte) (s : State), i.model = some (W, id) → s.fault = false →
    s.rom = shippedRom →
    (W = .w8 ∧ 3 < id.toNat ∨ W = .w16 ∧ 8 < id.toNat ∨ W = .w32 ∧ 1 < id.toNat) →
    exec i s = .next { s with fault := true, faultCode := .errModel }) ∧
  (∀ (i : Instr) (s t : State), i.model = none → s.fault = false → exec i s = .next t →
    t.fault = true → t.faultCode ≠ .errModel)

/-- ERR_UNSUPPORTED, code 4: the mirror form, the table engine, the table read-out and a packet command with
ENG = 1, on a mixed-reflection model, whatever LEN; no shipped model is mixed
(spec/60_exceptions.md R178). -/
def Obligations.MixedModelRaisesErrUnsupported : Prop :=
  FaultCode.errUnsupported.code = 4 ∧
  (∀ (W : Width) (id : Byte) (m : CrcModel W) (s : State), s.fault = false →
    romLookup s.rom W id = some m → m.refin ≠ m.refout →
    ∀ i ∈ [Instr.computeMirror W id, Instr.computeTable W id, Instr.generateTable W id,
        Instr.append W id .table, Instr.verify W id .table],
      exec i s = .next { s with fault := true, faultCode := .errUnsupported }) ∧
  (∀ (W : Width) (id : Byte) (m : CrcModel W), romLookup shippedRom W id = some m → m.refin = m.refout)

/-- ERR_BUFFER, code 2: LEN = 0 on a compute command, LEN not above the trailer size or above BUF_LEN on a
packet command, once the model is found and supported; crcN_generate_table and the MD5 commands never raise
it, whatever LEN (spec/60_exceptions.md R179). -/
def Obligations.BadLengthRaisesErrBuffer : Prop :=
  FaultCode.errBuffer.code = 2 ∧
  (∀ (W : Width) (id : Byte) (s t : State), s.fault = false →
    ∀ i ∈ [Instr.generateTable W id, .md5Init, .md5Update, .md5Final],
      exec i s = .next t → t.fault = true → t.faultCode ≠ .errBuffer) ∧
  ∀ (W : Width) (id : Byte) (m : CrcModel W) (s : State), s.fault = false → romLookup s.rom W id = some m →
    (s.len = 0 →
      exec (.compute W id) s = .next { s with fault := true, faultCode := .errBuffer } ∧
      (m.refin = m.refout →
        exec (.computeMirror W id) s = .next { s with fault := true, faultCode := .errBuffer } ∧
        exec (.computeTable W id) s = .next { s with fault := true, faultCode := .errBuffer })) ∧
    (s.len ≤ W.bits / 8 ∨ s.bufLen < s.len →
      ∀ eng : Engine, (eng = .table → m.refin = m.refout) →
        exec (.append W id eng) s = .next { s with fault := true, faultCode := .errBuffer } ∧
        exec (.verify W id eng) s = .next { s with fault := true, faultCode := .errBuffer })

/-- Every fault an instruction raises has its cause: no command raises a fault spec/60_exceptions.md R175 does not
list for it, and a fault later in the order of R181 comes only where no earlier one applies. -/
def Obligations.EveryFaultHasItsCause : Prop :=
  ∀ (i : Instr) (s t : State), s.fault = false → exec i s = .next t → t.fault = true →
    (t.faultCode = .errModel ∧ ∃ W id, i.model = some (W, id) ∧ romLookup s.rom W id = none) ∨
    (t.faultCode = .errUnsupported ∧ ∃ W id m, romLookup s.rom W id = some m ∧ m.refin ≠ m.refout ∧
      i ∈ [Instr.computeMirror W id, Instr.computeTable W id, Instr.generateTable W id,
        Instr.append W id .table, Instr.verify W id .table]) ∨
    (t.faultCode = .errBuffer ∧ ∃ W id m, romLookup s.rom W id = some m ∧
      (m.refin ≠ m.refout →
        i ∈ [Instr.compute W id, Instr.append W id .bitSerial, Instr.verify W id .bitSerial]) ∧
      (s.len = 0 ∧ i ∈ [Instr.compute W id, Instr.computeMirror W id, Instr.computeTable W id] ∨
       (s.len ≤ W.bits / 8 ∨ s.bufLen < s.len) ∧
         ∃ eng, i ∈ [Instr.append W id eng, Instr.verify W id eng])) ∨
    (t.faultCode = .errProtocol ∧ s.md5.st ≠ .active ∧ i ∈ [Instr.md5Update, Instr.md5Final])

/-- A fault ends only with `rst`: no other action of the HOST, a command among them, clears FAULT or changes
FAULT_CODE or any register the ENGINE writes; `rst` clears it (spec/60_exceptions.md R184). -/
def Obligations.OnlyResetLeavesAFault : Prop :=
  (∀ (s t : State) (a : HostAction) (rest : List HostAction), s.fault = true → s.host = a :: rest →
    a ≠ .rst → step s = .next t →
    t.fault = true ∧ t.faultCode = s.faultCode ∧ t.result = s.result ∧ t.digest = s.digest ∧
      t.tblout = s.tblout ∧ t.matched = s.matched ∧ t.md5 = s.md5 ∧ t.crcReg = s.crcReg ∧
      t.latch = s.latch) ∧
  (∀ (s : State) (rest : List HostAction), s.fault = true → s.host = .rst :: rest →
    ∃ t, step s = .next t ∧ t.fault = false ∧ t.faultCode = .none ∧ t.md5.st = .uninit ∧
      t.buf = s.buf ∧ t.bufLen = s.bufLen)

/-! ## The bit-serial engine -/

/-- `reflect_N`: bit i of the image is bit N-1-i, and reflecting twice gives the value back
(spec/40_bit_reflection.md R80, R81). -/
def Obligations.ReflectionReversesTheBits : Prop :=
  ∀ (W : Width) (v : BitVec W.bits),
    (∀ i, i < W.bits → (reflect v).getLsbD i = v.getLsbD (W.bits - 1 - i)) ∧ reflect (reflect v) = v

/-- One forward shift, bit by bit: bit j of the next register is `r[j-1] XOR (r[W-1] AND poly[j])`, and
`r[W-1] AND poly[0]` for j = 0 (spec/41_crc_bit_serial.md R86). -/
def Obligations.ForwardShiftBitByBit : Prop :=
  ∀ (W : Width) (poly r : BitVec W.bits),
    (fwdBit poly r).getLsbD 0 = (r.getLsbD (W.bits - 1) && poly.getLsbD 0) ∧
    ∀ j, 1 ≤ j → j < W.bits →
      (fwdBit poly r).getLsbD j = (r.getLsbD (j - 1) ^^ (r.getLsbD (W.bits - 1) && poly.getLsbD j))

/-- One mirror shift, bit by bit: `r[j+1] XOR (r[0] AND rpoly[j])` for j <= W-2 and `r[0] AND rpoly[W-1]` for
j = W-1; it is the forward shift seen in a mirror (spec/41_crc_bit_serial.md R90). -/
def Obligations.MirrorShiftIsTheForwardShiftReflected : Prop :=
  ∀ (W : Width) (p r : BitVec W.bits),
    (∀ j, j ≤ W.bits - 2 →
      (mirBit p r).getLsbD j = (r.getLsbD (j + 1) ^^ (r.getLsbD 0 && p.getLsbD j))) ∧
    (mirBit p r).getLsbD (W.bits - 1) = (r.getLsbD 0 && p.getLsbD (W.bits - 1)) ∧
    mirBit (reflect p) (reflect r) = reflect (fwdBit p r)

/-- A value as a polynomial over the two-element field: bit j is the coefficient of x^j
(spec/10_state.md R13). -/
noncomputable def bitsPoly {n : Nat} (v : BitVec n) : Polynomial (ZMod 2) :=
  ∑ j ∈ Finset.range n, if v.getLsbD j then Polynomial.X ^ j else 0

/-- A message as a polynomial, the first byte highest. -/
noncomputable def messagePoly (data : List Byte) : Polynomial (ZMod 2) :=
  data.foldl (fun q b => q * Polynomial.X ^ 8 + bitsPoly b) 0

/-- The forward register is the remainder of a polynomial division: from seed r, the message times x^W plus the
seed times x^(8 LEN), modulo the generator x^W + poly with its implicit top bit; a byte of an input-reflected
model enters reflected (spec/45_arithmetic_and_sequencing.md R162, spec/10_state.md R13, the definition of a CRC
in spec/00_scope.md R8). -/
def Obligations.ForwardRegisterIsThePolynomialRemainder : Prop :=
  ∀ (W : Width) (m : CrcModel W) (r : BitVec W.bits) (data : List Byte),
    bitsPoly (data.foldl (fwdByte m) r) =
      (messagePoly (data.map fun b => if m.refin then reflect b else b) * Polynomial.X ^ W.bits +
        bitsPoly r * Polynomial.X ^ (8 * data.length)) %ₘ
        (Polynomial.X ^ W.bits + bitsPoly m.poly)

/-- The mirror register is the reflection of the forward register started from the reflected seed; so the
mirror form is the forward form of the model with its seed reflected, the two agree when the seed is a
palindrome, and, when bit 0 of the polynomial is 1, only then (spec/41_crc_bit_serial.md R93). -/
def Obligations.MirrorFormIsTheForwardFormFromTheReflectedSeed : Prop :=
  ∀ (W : Width) (m : CrcModel W) (data : List Byte),
    (∀ r : BitVec W.bits,
      data.foldl (mirByte m (reflect m.poly)) r = reflect (data.foldl (fwdByte m) (reflect r))) ∧
    crcMirror m data = crcForward { m with init := reflect m.init } data ∧
    (reflect m.init = m.init → crcMirror m data = crcForward m data) ∧
    (m.poly.getLsbD 0 = true → crcMirror m data = crcForward m data → reflect m.init = m.init)

/-- `crcN_compute` for N = 8, 16, 32 (crc8_compute, crc16_compute, crc32_compute), on any model of the ROM and
any LEN of at least 1, completes and leaves the forward CRC of the data in CRC_REG and RESULT,
zero-extended; the latches are loaded; every other register, flag and byte of memory is unchanged
(spec/41_crc_bit_serial.md R94 to R97, spec/10_state.md R14, R26). What is left in CRC_REG and in P_RPOLY is the
model's reading (assumption log 9, 10). -/
def Obligations.ForwardComputeLeavesTheForwardCrc : Prop :=
  ∀ (W : Width) (id : Byte) (m : CrcModel W) (s : State), s.fault = false →
    romLookup s.rom W id = some m → s.len ≠ 0 →
    exec (.compute W id) s = .next
      { s with
        crcReg := (crcForward m s.dataBytes).setWidth 32
        result := (crcForward m s.dataBytes).setWidth 32
        latch :=
          { pW := W, pPoly := m.poly.setWidth 32, pInit := m.init.setWidth 32,
            pXorout := m.xorout.setWidth 32, pRefin := m.refin, pRefout := m.refout,
            pRpoly := s.latch.pRpoly } }

/-- `crcN_compute_mirror` for N = 8, 16, 32 (crc8_compute_mirror, crc16_compute_mirror, crc32_compute_mirror), on
a model that is not mixed and a LEN of at least 1, completes and leaves the mirror CRC of the data in CRC_REG
and RESULT; the latches are loaded, the reflected polynomial among them; all else is unchanged
(spec/41_crc_bit_serial.md R94, R98 to R100, spec/10_state.md R14, R26; CRC_REG: assumption log 9). -/
def Obligations.MirrorComputeLeavesTheMirrorCrc : Prop :=
  ∀ (W : Width) (id : Byte) (m : CrcModel W) (s : State), s.fault = false →
    romLookup s.rom W id = some m → m.refin = m.refout → s.len ≠ 0 →
    exec (.computeMirror W id) s = .next
      { s with
        crcReg := (crcMirror m s.dataBytes).setWidth 32
        result := (crcMirror m s.dataBytes).setWidth 32
        latch :=
          { pW := W, pPoly := m.poly.setWidth 32, pInit := m.init.setWidth 32,
            pXorout := m.xorout.setWidth 32, pRefin := m.refin, pRefout := m.refout,
            pRpoly := (reflect m.poly).setWidth 32 } }

/-! ## The table-driven engine -/

/-- The entries of a table: entry 0 is 0; entry 1 of a neither-reflected model is its polynomial, entry 0x80 of a
both-reflected one the reflected polynomial; each is the CRC of the one byte under seed 0 and final XOR 0;
and the case R table is the case L table seen in a mirror (spec/42_crc_table.md R106). -/
def Obligations.TableEntriesAreRawRemainders : Prop :=
  ∀ (W : Width) (m : CrcModel W), m.refin = m.refout →
    tblEntry m 0 = 0 ∧
    (m.refin = false → tblEntry m 1 = m.poly) ∧
    (m.refin = true → tblEntry m 0x80 = reflect m.poly) ∧
    (∀ i : Byte, m.refin = false → tblEntry m i = crcForward { m with init := 0, xorout := 0 } [i]) ∧
    (∀ i : Byte, m.refin = true → tblEntry m i = crcMirror { m with init := 0, xorout := 0 } [i]) ∧
    (∀ i : Byte,
      tblEntry { m with refin := true, refout := true } i =
        reflect (tblEntry { m with refin := false, refout := false } (reflect i)))

/-- One right-shifting table step is eight mirror shifts of a both-reflected model, and one left-shifting step
eight forward shifts of a neither-reflected one (spec/42_crc_table.md R108, R109). -/
def Obligations.TableStepIsEightShifts : Prop :=
  ∀ (W : Width) (m : CrcModel W) (r : BitVec W.bits) (b : Byte),
    (m.refin = true → m.refout = true →
      tblRight (tblEntry m) r b = mirByte m (reflect m.poly) r b) ∧
    (m.refin = false → m.refout = false → tblLeft (tblEntry m) r b = fwdByte m r b)

/-- The invariant between the engines, exactly as spec/42_crc_table.md R111 gives it, for every ROM entry that is
not mixed and every data sequence. -/
def Obligations.TableEngineAgreesWithTheBitSerialEngine : Prop :=
  ∀ (W : Width) (m : CrcModel W) (data : List Byte),
    (m.refin = false → m.refout = false → crcTable m data = crcForward m data) ∧
    (m.refin = false → m.refout = false → reflect m.init = m.init → crcTable m data = crcMirror m data) ∧
    (m.refin = true → m.refout = true → crcTable m data = crcMirror m data) ∧
    (m.refin = true → m.refout = true → reflect m.init = m.init → crcTable m data = crcForward m data) ∧
    (m.refin = true → m.refout = true → reflect m.init ≠ m.init → m.poly.getLsbD 0 = true →
      crcTable m data ≠ crcForward m data)

/-- Every entry of the shipped ROM is not mixed and has a palindromic seed (spec/10_state.md R17), so on every
shipped model all the engines give one value for every message (spec/42_crc_table.md R111). -/
def Obligations.ShippedModelsHaveOneValue : Prop :=
  ∀ (W : Width) (id : Byte) (m : CrcModel W), romLookup shippedRom W id = some m →
    m.refin = m.refout ∧ reflect m.init = m.init ∧
    ∀ (data : List Byte) (eng : Engine),
      crcMirror m data = crcForward m data ∧ crcTable m data = crcForward m data ∧
        pktCrc m eng data = crcForward m data

/-- `crcN_compute_table` for N = 8, 16, 32 (crc8_compute_table, crc16_compute_table, crc32_compute_table), on a
model that is not mixed and a LEN of at least 1, completes; CRC_REG holds the register before the final XOR,
RESULT the CRC; the latches are loaded; all else is unchanged (spec/42_crc_table.md R110, R112 to R115). What is
left in CRC_REG and in P_RPOLY is the model's reading (assumption log 9, 10). -/
def Obligations.TableComputeLeavesTheTableCrc : Prop :=
  ∀ (W : Width) (id : Byte) (m : CrcModel W) (s : State), s.fault = false →
    romLookup s.rom W id = some m → m.refin = m.refout → s.len ≠ 0 →
    ∃ t, exec (.computeTable W id) s = .next t ∧
      t = { s with crcReg := t.crcReg, result := t.result, latch := t.latch } ∧
      t.result = (crcTable m s.dataBytes).setWidth 32 ∧
      t.crcReg ^^^ m.xorout.setWidth 32 = t.result ∧
      t.latch =
        { pW := W, pPoly := m.poly.setWidth 32, pInit := m.init.setWidth 32,
          pXorout := m.xorout.setWidth 32, pRefin := m.refin, pRefout := m.refout,
          pRpoly := if m.refin then (reflect m.poly).setWidth 32 else s.latch.pRpoly }

/-- `crcN_generate_table` for N = 8, 16, 32 (crc8_generate_table, crc16_generate_table, crc32_generate_table), on a
model that is not mixed and whatever LEN, completes; TBLOUT[i] is entry i of the model's table,
zero-extended; the latches are loaded; RESULT, CRC_REG, STATUS and all else are unchanged
(spec/42_crc_table.md R107, R112, R116 to R118; the latches: assumption log 10). -/
def Obligations.GenerateTableCopiesTheTable : Prop :=
  ∀ (W : Width) (id : Byte) (m : CrcModel W) (s : State), s.fault = false →
    romLookup s.rom W id = some m → m.refin = m.refout →
    ∃ t, exec (.generateTable W id) s = .next t ∧
      t = { s with tblout := t.tblout, latch := t.latch } ∧
      (∀ i : Fin 256, t.tblout[i] = (tblEntry m (BitVec.ofNat 8 i.val)).setWidth 32) ∧
      t.latch =
        { pW := W, pPoly := m.poly.setWidth 32, pInit := m.init.setWidth 32,
          pXorout := m.xorout.setWidth 32, pRefin := m.refin, pRefout := m.refout,
          pRpoly := if m.refin then (reflect m.poly).setWidth 32 else s.latch.pRpoly }

/-! ## Packets -/

/-- The two values of ENG give one CRC for every model that is not mixed, whatever its seed: the mirror CRC for
a both-reflected model and the forward CRC for a neither-reflected one; a mixed model with ENG = 0 uses the
forward form (spec/43_packet_append_verify.md R127). -/
def Obligations.PacketEnginesAgree : Prop :=
  ∀ (W : Width) (m : CrcModel W) (payload : List Byte),
    (m.refin = m.refout → pktCrc m .bitSerial payload = pktCrc m .table payload) ∧
    (m.refin = true → m.refout = true → ∀ eng, pktCrc m eng payload = crcMirror m payload) ∧
    (m.refin = false → m.refout = false → ∀ eng, pktCrc m eng payload = crcForward m payload) ∧
    (m.refin ≠ m.refout → pktCrc m .bitSerial payload = crcForward m payload)

/-- `crcN_append` for N = 8, 16, 32 (crc8_append, crc16_append, crc32_append) with either ENG, on a packet longer
than its trailer and no longer than the buffer, completes: byte j of the CRC of the payload is at offset
L - T + j, least significant byte at the lowest offset; every other byte of BUF reads as before; RESULT is
the CRC; only CRC_REG, whose value is open, and the latches change besides
(spec/43_packet_append_verify.md R126, R128, R130 to R133, spec/20_memory.md R43; CRC_REG and P_RPOLY: assumption log
8, 10). -/
def Obligations.AppendWritesTheTrailerAndNothingElse : Prop :=
  ∀ (W : Width) (id : Byte) (eng : Engine) (m : CrcModel W) (s : State), s.fault = false →
    romLookup s.rom W id = some m → (eng = .table → m.refin = m.refout) → s.buf.wf = true →
    W.bits / 8 < s.len → s.len ≤ s.bufLen →
    ∃ t, exec (.append W id eng) s = .next t ∧
      t = { s with crcReg := t.crcReg, latch := t.latch, draws := t.draws, buf := t.buf,
                   result := (pktCrc m eng (s.payload W)).setWidth 32 } ∧
      (∀ j, j < W.bits / 8 →
        t.buf.read (s.len - W.bits / 8 + j) =
          (pktCrc m eng (s.payload W)).extractLsb' (8 * j) 8) ∧
      (∀ a, a < s.len - W.bits / 8 ∨ s.len ≤ a → t.buf.read a = s.buf.read a) ∧
      t.crcReg.toNat < 2 ^ W.bits ∧
      t.latch =
        { pW := W, pPoly := m.poly.setWidth 32, pInit := m.init.setWidth 32,
          pXorout := m.xorout.setWidth 32, pRefin := m.refin, pRefout := m.refout,
          pRpoly := if m.refin && m.refout then (reflect m.poly).setWidth 32 else s.latch.pRpoly }

/-- `crcN_verify` for N = 8, 16, 32 (crc8_verify, crc16_verify, crc32_verify) with either ENG, on a packet longer than
its trailer and no longer than the buffer, completes: MATCH is 1 exactly when every trailer byte is the byte of
the recomputed CRC in its place, RESULT is MATCH as a number; memory and all else but CRC_REG, whose value is
open, and the latches are unchanged (spec/43_packet_append_verify.md R129, R130, R134 to R136,
spec/60_exceptions.md R190; CRC_REG and P_RPOLY: assumption log 8, 10). -/
def Obligations.VerifyComparesTheTrailer : Prop :=
  ∀ (W : Width) (id : Byte) (eng : Engine) (m : CrcModel W) (s : State), s.fault = false →
    romLookup s.rom W id = some m → (eng = .table → m.refin = m.refout) →
    W.bits / 8 < s.len → s.len ≤ s.bufLen →
    ∃ t, exec (.verify W id eng) s = .next t ∧
      t = { s with crcReg := t.crcReg, latch := t.latch, draws := t.draws, result := t.result,
                   matched := t.matched } ∧
      (t.matched = true ↔
        ∀ j, j < W.bits / 8 →
          s.buf.read (s.len - W.bits / 8 + j) =
            (pktCrc m eng (s.payload W)).extractLsb' (8 * j) 8) ∧
      t.result = (if t.matched then 1 else 0) ∧
      t.crcReg.toNat < 2 ^ W.bits ∧
      t.latch =
        { pW := W, pPoly := m.poly.setWidth 32, pInit := m.init.setWidth 32,
          pXorout := m.xorout.setWidth 32, pRefin := m.refin, pRefout := m.refout,
          pRpoly := if m.refin && m.refout then (reflect m.poly).setWidth 32 else s.latch.pRpoly }

/-- A verify right after an append on the same buffer is true, with either ENG on either side, and a second
append leaves the same bytes and the same RESULT (spec/43_packet_append_verify.md R137 (a) and (c)). -/
def Obligations.AppendedPacketVerifies : Prop :=
  ∀ (W : Width) (id : Byte) (eng eng' : Engine) (m : CrcModel W) (s : State), s.fault = false →
    romLookup s.rom W id = some m → (eng = .table ∨ eng' = .table → m.refin = m.refout) →
    s.buf.wf = true → W.bits / 8 < s.len → s.len ≤ s.bufLen →
    ∃ t u v, exec (.append W id eng) s = .next t ∧
      exec (.verify W id eng') t = .next u ∧ u.matched = true ∧ u.result = 1 ∧ u.buf = t.buf ∧
      exec (.append W id eng') t = .next v ∧ v.buf = t.buf ∧ v.result = t.result

/-! ## MD5 -/

/-- The mixing functions bit by bit: F selects y or z by x, G selects x or y by z, H is the exclusive or, I is
y XOR (x OR NOT z) (spec/44_md5.md R141). -/
def Obligations.MixingFunctionsBitByBit : Prop :=
  ∀ (x y z : Word) (i : Nat), i < 32 →
    (mixF x y z).getLsbD i = (if x.getLsbD i then y.getLsbD i else z.getLsbD i) ∧
    (mixG x y z).getLsbD i = (if z.getLsbD i then x.getLsbD i else y.getLsbD i) ∧
    (mixH x y z).getLsbD i = (x.getLsbD i ^^ (y.getLsbD i ^^ z.getLsbD i)) ∧
    (mixI x y z).getLsbD i = (y.getLsbD i ^^ (x.getLsbD i || !z.getLsbD i))

/-- A message word is four block bytes, the first least significant (spec/44_md5.md R147). -/
def Obligations.MessageWordsAreLittleEndian : Prop :=
  ∀ (blk : Vector Byte 64) (j : Fin 16) (q : Fin 4) (b : Fin 8),
    (msgWord blk j).getLsbD (8 * q.val + b.val) =
      (blk[4 * j.val + q.val]'(by omega)).getLsbD b.val

/-- One step in each of the four rounds: the sum with its constant and its message word, rotated and added to b;
the other three registers move one place (spec/44_md5.md R143, R144, R145). -/
def Obligations.StepOfEachRound : Prop :=
  ∀ (blk : Vector Byte 64) (q : Work) (k : Fin 16),
    md5Step blk q ⟨k.val, by omega⟩ =
      { a := q.d, c := q.b, d := q.c,
        b := q.b + rotl32 (q.a + mixF q.b q.c q.d + kTable[k.val] + msgWord blk k)
              ([7, 12, 17, 22].getD (k.val % 4) 0) } ∧
    md5Step blk q ⟨16 + k.val, by omega⟩ =
      { a := q.d, c := q.b, d := q.c,
        b := q.b + rotl32 (q.a + mixG q.b q.c q.d + kTable[16 + k.val] +
              msgWord blk (Fin.ofNat 16 (5 * (16 + k.val) + 1)))
              ([5, 9, 14, 20].getD (k.val % 4) 0) } ∧
    md5Step blk q ⟨32 + k.val, by omega⟩ =
      { a := q.d, c := q.b, d := q.c,
        b := q.b + rotl32 (q.a + mixH q.b q.c q.d + kTable[32 + k.val] +
              msgWord blk (Fin.ofNat 16 (3 * (32 + k.val) + 5)))
              ([4, 11, 16, 23].getD (k.val % 4) 0) } ∧
    md5Step blk q ⟨48 + k.val, by omega⟩ =
      { a := q.d, c := q.b, d := q.c,
        b := q.b + rotl32 (q.a + mixI q.b q.c q.d + kTable[48 + k.val] +
              msgWord blk (Fin.ofNat 16 (7 * (48 + k.val))))
              ([6, 10, 15, 21].getD (k.val % 4) 0) }

/-- `rotl32` moves bit i to bit (i + s) mod 32, for every amount the step uses, all between 4 and 23; each round
uses each of the 16 message words exactly once (spec/00_scope.md R7, spec/44_md5.md R143, R144). -/
def Obligations.RotationsAndScheduleOfTheRounds : Prop :=
  (∀ (v : Word) (s i : Nat), 1 ≤ s → s ≤ 31 → i < 32 →
    (rotl32 v s).getLsbD ((i + s) % 32) = v.getLsbD i) ∧
  (∀ i : Fin 64, 4 ≤ rotAmount i ∧ rotAmount i ≤ 23) ∧
  (∀ (r : Fin 4) (j : Fin 16), ∃! k : Fin 16, msgIndex ⟨16 * r.val + k.val, by omega⟩ = j)

/-- md5_init completes in every MD5_ST: H is set to the four initial words, NBITS and MD5_BUFLEN to 0, MD5_ST to
ACTIVE; MD5_BUF, DIGEST, RESULT, STATUS.FAULT, STATUS.MATCH and all else are unchanged
(spec/44_md5.md R148). -/
def Obligations.Md5InitStartsAContext : Prop :=
  ∀ s : State, s.fault = false →
    exec .md5Init s = .next
      { s with
        md5 := { s.md5 with
          h := #v[0x67452301, 0xEFCDAB89, 0x98BADCFE, 0x10325476], nbits := 0, bufLen := 0, st := .active } }

/-- md5_update completes in ACTIVE for every LEN, 0 among them, and writes the MD5 context only: NBITS goes up by
8 per byte modulo 2^64, MD5_BUFLEN is the old one plus LEN modulo 64, MD5_ST stays ACTIVE; data that does not
fill the buffer is stored behind the bytes already there and H is unchanged (spec/44_md5.md R149,
spec/10_state.md R20). That the bytes of MD5_BUF above the new fill count and the working registers a to d are then
as before is the model's reading (assumption log 12). -/
def Obligations.Md5UpdateCountsAndBuffers : Prop :=
  ∀ s : State, s.fault = false → s.md5.st = .active →
    ∃ t, exec .md5Update s = .next t ∧ t = { s with md5 := t.md5 } ∧
      t.md5.st = .active ∧
      t.md5.nbits = s.md5.nbits + 8 * BitVec.ofNat 64 s.len ∧
      t.md5.bufLen.toNat = (s.md5.bufLen.toNat + s.len) % 64 ∧
      (s.md5.bufLen.toNat + s.len < 64 →
        t.md5.h = s.md5.h ∧ t.md5.work = s.md5.work ∧
        ∀ k : Fin 64,
          t.md5.buf[k] =
            if s.md5.bufLen.toNat ≤ k.val ∧ k.val < s.md5.bufLen.toNat + s.len
            then s.data.read (k.val - s.md5.bufLen.toNat) else s.md5.buf[k])

/-- md5_update consumes its data one byte at a time: no data changes nothing; one byte more is stored at
MD5_BUFLEN and counted, and a byte that fills the buffer runs the block transform on it and empties it
(spec/44_md5.md R149, R146). What MD5_BUF holds above the fill count, and after a transform, is the model's
reading (assumption log 12). -/
def Obligations.Md5UpdateConsumesByteByByte : Prop :=
  ∀ (s : State), s.fault = false → s.md5.st = .active →
    exec .md5Update (s.withData []) = .next (s.withData []) ∧
    ∀ (d : List Byte) (b : Byte), d.length + 1 < 2 ^ s.lenW →
      ∃ t u, exec .md5Update (s.withData d) = .next t ∧ exec .md5Update (s.withData (d ++ [b])) = .next u ∧
        u.md5.nbits = t.md5.nbits + 8 ∧
        u.md5.buf = t.md5.buf.set t.md5.bufLen.toNat b t.md5.bufLen.isLt ∧
        (t.md5.bufLen ≠ 63 → u.md5.h = t.md5.h ∧ u.md5.bufLen = t.md5.bufLen + 1) ∧
        (t.md5.bufLen = 63 → u.md5.h = md5Block t.md5.h (t.md5.buf.set 63 b) ∧ u.md5.bufLen = 0)

/-- Chunking invariance: however a message of the HOST is cut into md5_update commands, zero-length ones among
them, the MD5 context after the last is that after one md5_update of the whole (spec/44_md5.md R156). That a run
is a list of the HOST's actions is the model's form (assumption log 1). -/
def Obligations.ChunkingDoesNotMatter : Prop :=
  ∀ (s : State) (chunks : List (List Byte)), s.fault = false → s.md5.st = .active →
    chunks.flatten.length < 2 ^ s.lenW →
    ∃ t u,
      Sys2Proof.core.run (3 * chunks.length)
        { s with host := chunks.flatMap fun d =>
            [.supplyData d, .writeLen d.length, .command 0x00000009] } = .next t ∧
      Sys2Proof.core.run 3
        { s with host := [.supplyData chunks.flatten, .writeLen chunks.flatten.length,
            .command 0x00000009] } = .next u ∧
      t.md5.h = u.md5.h ∧ t.md5.nbits = u.md5.nbits ∧ t.md5.bufLen = u.md5.bufLen ∧ t.md5.st = u.md5.st ∧
      ∀ k : Fin 64, k.val < t.md5.bufLen.toNat → t.md5.buf[k] = u.md5.buf[k]

/-- md5_final completes in ACTIVE with the hash of the padded message: up to 55 buffered bytes one block, the
bytes, 0x80, zeros and the bit count little-endian; from 56 on two blocks, the second 56 zeros and the bit
count. DIGEST is the four words little-endian, MD5_BUFLEN is 0, NBITS is unchanged, MD5_ST is FINALIZED, and
nothing but the MD5 context and DIGEST is written (spec/44_md5.md R150, R151, R153). -/
def Obligations.Md5FinalPadsAndEmitsTheDigest : Prop :=
  ∀ s : State, s.fault = false → s.md5.st = .active →
    ∃ t, exec .md5Final s = .next t ∧ t = { s with md5 := t.md5, digest := t.digest } ∧
      t.md5.st = .finalized ∧ t.md5.bufLen = 0 ∧ t.md5.nbits = s.md5.nbits ∧
      (∀ (j : Fin 4) (m : Fin 4),
        t.digest[4 * j.val + m.val]'(by omega) = t.md5.h[j].extractLsb' (8 * m.val) 8) ∧
      (s.md5.bufLen.toNat ≤ 55 →
        t.md5.h = md5Block s.md5.h
          (Vector.ofFn fun k : Fin 64 =>
            if k.val < s.md5.bufLen.toNat then s.md5.buf[k]
            else if k.val = s.md5.bufLen.toNat then 0x80
            else if k.val < 56 then 0
            else s.md5.nbits.extractLsb' (8 * (k.val - 56)) 8)) ∧
      (56 ≤ s.md5.bufLen.toNat →
        t.md5.h = md5Block
          (md5Block s.md5.h
            (Vector.ofFn fun k : Fin 64 =>
              if k.val < s.md5.bufLen.toNat then s.md5.buf[k]
              else if k.val = s.md5.bufLen.toNat then 0x80 else 0))
          (Vector.ofFn fun k : Fin 64 =>
            if k.val < 56 then 0 else s.md5.nbits.extractLsb' (8 * (k.val - 56)) 8))

/-- The lifecycle of the MD5 context: md5_init gives ACTIVE from every state; md5_update keeps ACTIVE and
md5_final gives FINALIZED, and both raise ERR_PROTOCOL, code 3, from any other state and leave the context and
DIGEST as they are; no CRC command changes the context or DIGEST (spec/44_md5.md R154, R155,
spec/60_exceptions.md R180, spec/10_state.md R27). -/
def Obligations.LifecycleOfTheMd5Context : Prop :=
  FaultCode.errProtocol.code = 3 ∧
  ∀ s : State, s.fault = false →
    (∃ t, exec .md5Init s = .next t ∧ t.fault = false ∧ t.md5.st = .active) ∧
    (s.md5.st = .active →
      (∃ t, exec .md5Update s = .next t ∧ t.fault = false ∧ t.md5.st = .active) ∧
      (∃ t, exec .md5Final s = .next t ∧ t.fault = false ∧ t.md5.st = .finalized)) ∧
    (s.md5.st ≠ .active →
      ∀ i ∈ [Instr.md5Update, Instr.md5Final],
        exec i s = .next { s with fault := true, faultCode := .errProtocol }) ∧
    (∀ (i : Instr) (t : State), i.model ≠ none → exec i s = .next t →
      t.md5 = s.md5 ∧ t.digest = s.digest ∧ (t.fault = true → t.faultCode ≠ .errProtocol))

/-! ## The whole machine -/

/-- Every step keeps the invariant of a command boundary: FAULT_CODE is 0 exactly when FAULT is 0, in ACTIVE
MD5_BUFLEN is NBITS / 8 modulo 64, DATA and BUF are in canonical form, BUF has no byte outside its extent and LEN
is below 2^LEN_W (spec/10_state.md R21, R25, R29, spec/20_memory.md R40, R41). -/
def Obligations.StepKeepsTheInvariant : Prop :=
  ∀ s t : State, Inv s → step s = .next t → Inv t

/-- The invariant holds after reset, whatever the HOST is going to do. -/
def Obligations.ResetMeetsTheInvariant : Prop :=
  ∀ actions : List HostAction, Inv { State.reset with host := actions }

/-- After reset FAULT, FAULT_CODE and MATCH are 0, MD5_ST is UNINIT, STATUS reads 0, LEN_W has its default, 32, and
the ROM its fixed content, the 15 rows of spec/10_state.md R16 in the order of R15 (R33, spec/00_scope.md R5). The
cells R16 marks GK are the spec's own and unverified (assumption log 13). -/
def Obligations.StateAfterReset : Prop :=
  State.reset.fault = false ∧ State.reset.faultCode = .none ∧ State.reset.matched = false ∧
  State.reset.md5.st = .uninit ∧ State.reset.status = 0 ∧ State.reset.lenW = 32 ∧
  State.reset.rom = shippedRom ∧
  (romModels shippedRom .w8).length = 4 ∧ (romModels shippedRom .w16).length = 9 ∧
  (romModels shippedRom .w32).length = 2 ∧
  romLookup shippedRom .w8 0 = some ⟨0x07, 0x00, 0x00, false, false⟩ ∧
  romLookup shippedRom .w8 1 = some ⟨0x07, 0x00, 0x55, false, false⟩ ∧
  romLookup shippedRom .w8 2 = some ⟨0x07, 0xFF, 0x00, true, true⟩ ∧
  romLookup shippedRom .w8 3 = some ⟨0x31, 0x00, 0x00, true, true⟩ ∧
  romLookup shippedRom .w16 0 = some ⟨0x8005, 0x0000, 0x0000, true, true⟩ ∧
  romLookup shippedRom .w16 1 = some ⟨0x8005, 0x0000, 0xFFFF, true, true⟩ ∧
  romLookup shippedRom .w16 2 = some ⟨0x8005, 0xFFFF, 0xFFFF, true, true⟩ ∧
  romLookup shippedRom .w16 3 = some ⟨0x8005, 0xFFFF, 0x0000, true, true⟩ ∧
  romLookup shippedRom .w16 4 = some ⟨0x1021, 0x0000, 0x0000, true, true⟩ ∧
  romLookup shippedRom .w16 5 = some ⟨0x1021, 0xFFFF, 0x0000, false, false⟩ ∧
  romLookup shippedRom .w16 6 = some ⟨0x1021, 0xFFFF, 0xFFFF, true, true⟩ ∧
  romLookup shippedRom .w16 7 = some ⟨0x1021, 0x0000, 0x0000, false, false⟩ ∧
  romLookup shippedRom .w16 8 = some ⟨0x3D65, 0x0000, 0xFFFF, true, true⟩ ∧
  romLookup shippedRom .w32 0 = some ⟨0x04C11DB7, 0xFFFFFFFF, 0xFFFFFFFF, true, true⟩ ∧
  romLookup shippedRom .w32 1 = some ⟨0x04C11DB7, 0xFFFFFFFF, 0x00000000, false, false⟩

/-- `rst`, in every state, a faulted one too: FAULT, FAULT_CODE and MATCH are 0 and MD5_ST is UNINIT; the
parameters, BUF and DATA are untouched (spec/70_reset_and_hazards.md R200). The other registers get free values
(assumption log 7), about which nothing is said. -/
def Obligations.ResetActionClearsTheFlags : Prop :=
  ∀ (s : State) (rest : List HostAction), s.host = .rst :: rest →
    ∃ t, step s = .next t ∧ t.host = rest ∧ t.fault = false ∧ t.faultCode = .none ∧ t.matched = false ∧
      t.md5.st = .uninit ∧ t.status = 0 ∧ t.rom = s.rom ∧ t.lenW = s.lenW ∧ t.data = s.data ∧
      t.buf = s.buf ∧ t.bufLen = s.bufLen

/-- No step changes a parameter of the hardware: the parameter ROM, and so none changes a table, or LEN_W
(spec/10_state.md R13, R18, spec/20_memory.md R54, spec/00_scope.md R5). That both stand in the state is the model's
form (assumption log 2, 3). -/
def Obligations.NoStepChangesTheParameters : Prop :=
  ∀ s t : State, step s = .next t → t.rom = s.rom ∧ t.lenW = s.lenW

/-- Which command can write what: DIGEST by md5_final, MATCH by crcN_verify, TBLOUT by crcN_generate_table, BUF by
crcN_append, the MD5 context by the MD5 commands, RESULT and CRC_REG by a CRC command other than
crcN_generate_table, the latches by a CRC command; no command writes CMD, LEN, DATA, the extent of BUF or a
parameter (spec/10_state.md R26 to R29, spec/20_memory.md R40, R48, spec/70_reset_and_hazards.md R209). -/
def Obligations.EveryRegisterHasItsWriters : Prop :=
  ∀ (i : Instr) (s t : State), exec i s = .next t →
    (t.digest ≠ s.digest → i = .md5Final) ∧
    (t.matched ≠ s.matched → ∃ W id eng, i = .verify W id eng) ∧
    (t.tblout ≠ s.tblout → ∃ W id, i = .generateTable W id) ∧
    (t.buf ≠ s.buf → ∃ W id eng, i = .append W id eng) ∧
    (t.md5 ≠ s.md5 → i.model = none) ∧
    (t.result ≠ s.result ∨ t.crcReg ≠ s.crcReg →
      ∃ W id, i.model = some (W, id) ∧ i ≠ .generateTable W id) ∧
    (t.latch ≠ s.latch → i.model ≠ none) ∧
    t.cmd = s.cmd ∧ t.len = s.len ∧ t.data = s.data ∧ t.bufLen = s.bufLen ∧ t.rom = s.rom ∧
    t.lenW = s.lenW ∧ t.host = s.host

/-- The result of a CRC command depends on its model and its operands only, not on earlier commands, on CRC_REG,
the latches, RESULT or the MD5 context: two runs from states that agree on the ROM, LEN, DATA and BUF raise the
same fault or leave the same RESULT, MATCH, table and packet (spec/41_crc_bit_serial.md R101,
spec/10_state.md R31). -/
def Obligations.CrcResultsDependOnTheOperandsOnly : Prop :=
  ∀ (i : Instr) (W : Width) (id : Byte) (s s' t t' : State), i.model = some (W, id) →
    s.fault = false → s'.fault = false → s.faultCode = s'.faultCode → s.rom = s'.rom → s.len = s'.len →
    s.data = s'.data → s.buf = s'.buf → s.bufLen = s'.bufLen →
    exec i s = .next t → exec i s' = .next t' →
    t.fault = t'.fault ∧ t.faultCode = t'.faultCode ∧ t.buf = t'.buf ∧
    (t.fault = false →
      (i ≠ .generateTable W id → t.result = t'.result) ∧
      (i = .generateTable W id → t.tblout = t'.tblout) ∧
      (∀ eng, i = .verify W id eng → t.matched = t'.matched))

/-- Every value a command of width W leaves fits W bits: RESULT and CRC_REG after compute, compute_mirror,
compute_table and append, every entry of TBLOUT after generate_table; RESULT after verify is 0 or 1
(spec/45_arithmetic_and_sequencing.md R161, spec/10_state.md R11, R26). -/
def Obligations.CrcValuesFitTheWidth : Prop :=
  ∀ (W : Width) (id : Byte) (s t : State), s.fault = false →
    (∀ i ∈ [Instr.compute W id, Instr.computeMirror W id, Instr.computeTable W id, Instr.append W id .bitSerial,
        Instr.append W id .table],
      exec i s = .next t → t.fault = false → t.result.toNat < 2 ^ W.bits ∧ t.crcReg.toNat < 2 ^ W.bits) ∧
    (exec (.generateTable W id) s = .next t → t.fault = false →
      ∀ k : Fin 256, t.tblout[k].toNat < 2 ^ W.bits) ∧
    (∀ eng, exec (.verify W id eng) s = .next t → t.fault = false →
      (t.result = 0 ∨ t.result = 1) ∧ t.crcReg.toNat < 2 ^ W.bits)

/-- The STATUS word: FAULT in bit 0, FAULT_CODE in 4:1, MATCH in 5, MD5_ST in 7:6, the rest 0, with the codes of
spec/60_exceptions.md R175 and spec/10_state.md R22 (spec/10_state.md R25). -/
def Obligations.StatusWordLayout : Prop :=
  (∀ s : State,
    s.status.getLsbD 0 = s.fault ∧ s.status.extractLsb' 1 4 = s.faultCode.code ∧
    s.status.getLsbD 5 = s.matched ∧ s.status.extractLsb' 6 2 = s.md5.st.code ∧
    s.status.extractLsb' 8 24 = 0) ∧
  (FaultCode.none.code = 0 ∧ FaultCode.errModel.code = 1 ∧ FaultCode.errBuffer.code = 2 ∧
    FaultCode.errProtocol.code = 3 ∧ FaultCode.errUnsupported.code = 4 ∧ FaultCode.errIllegalCmd.code = 5) ∧
  (Md5St.uninit.code = 0 ∧ Md5St.active.code = 1 ∧ Md5St.finalized.code = 2)

/-- What the HOST reads by register number, n at the bus address REG_BASE + 4n: STATUS from 2, RESULT from 3,
DIGEST as four little-endian words from 4 to 7, TBLOUT from 8 to 263 (spec/10_state.md R30). That a read of the
registers 0 and 1, which R30 gives the HOST for writing, and of numbers above 263 answers nothing is the model's
choice (assumption log 14). -/
def Obligations.RegisterNumbersOfTheHost : Prop :=
  (∀ n, regAddress n = Config.regBase + 4 * n) ∧
  ∀ s : State,
    s.readReg 0 = none ∧ s.readReg 1 = none ∧ s.readReg 2 = some s.status ∧ s.readReg 3 = some s.result ∧
    (∀ j : Fin 4, ∃ v, s.readReg (4 + j.val) = some v ∧
      ∀ m : Fin 4, v.extractLsb' (8 * m.val) 8 = s.digest[4 * j.val + m.val]'(by omega)) ∧
    (∀ i : Fin 256, s.readReg (8 + i.val) = some s.tblout[i]) ∧
    (∀ n, 263 < n → s.readReg n = none)

/-- On the nine bytes "123456789" every shipped model completes with the check value spec/10_state.md R16 gives it,
by the forward form, the mirror form and the table engine (spec/95_test_vectors.md section 3). The values rest on the
cells of the shipped ROM that R16 marks GK (assumption log 13). -/
def Obligations.ShippedModelsHaveTheirCheckValues : Prop :=
  ∀ s : State, s.fault = false → s.rom = shippedRom →
    s.dataBytes = [0x31, 0x32, 0x33, 0x34, 0x35, 0x36, 0x37, 0x38, 0x39] →
    ∀ row ∈ ([(.w8, 0, 0xF4), (.w8, 1, 0xA1), (.w8, 2, 0xD0), (.w8, 3, 0xA1)] ++
        [(.w16, 0, 0xBB3D), (.w16, 1, 0x44C2), (.w16, 2, 0xB4C8), (.w16, 3, 0x4B37), (.w16, 4, 0x2189),
          (.w16, 5, 0x29B1), (.w16, 6, 0x906E), (.w16, 7, 0x31C3), (.w16, 8, 0xEA82)] ++
        [(.w32, 0, 0xCBF43926), (.w32, 1, 0x0376E6E7)] : List (Width × Byte × Word)),
      ∀ i ∈ [Instr.compute row.1 row.2.1, Instr.computeMirror row.1 row.2.1, Instr.computeTable row.1 row.2.1],
        ∃ t, exec i s = .next t ∧ t.fault = false ∧ t.result = row.2.2
end

