-- ==== Sys2Proof/Laws/Bits.lean ====
section
/-! SUPPORT. The small lemmas of the bit and byte helpers. -/

namespace Sys2Proof.Machine

@[simp] theorem tabulate_getElem {α : Type} {n : Nat} (f : Fin n → α) (i : Nat) (h : i < n) :
    (tabulate n f)[i] = f ⟨i, h⟩ := by
  simp [tabulate]

@[simp] theorem leBytes_length {n : Nat} (v : BitVec n) (k : Nat) : (leBytes v k).length = k := by
  simp [leBytes]

@[simp] theorem leBytes_getElem {n : Nat} (v : BitVec n) (k j : Nat) (h : j < (leBytes v k).length) :
    (leBytes v k)[j] = byteOf v j := by
  simp [leBytes]

theorem byteOf_getLsbD {n : Nat} (v : BitVec n) (j i : Nat) (h : i < 8) :
    (byteOf v j).getLsbD i = v.getLsbD (8 * j + i) := by
  simp [byteOf, h]

/-- Bit i of an assembled value is bit i mod 8 of byte i / 8. -/
theorem leAssemble_getLsbD (n : Nat) (bs : List Byte) (i : Nat) (h : i < n) :
    (leAssemble n bs).getLsbD i = (bs.getD (i / 8) 0).getLsbD (i % 8) := by
  induction bs generalizing i with
  | nil => simp [leAssemble]
  | cons b bs ih =>
    simp only [leAssemble, BitVec.getLsbD_or, BitVec.getLsbD_setWidth, BitVec.getLsbD_shiftLeft, h,
      decide_true, Bool.true_and]
    by_cases h8 : i < 8
    · have h0 : i / 8 = 0 := by omega
      have hm : i % 8 = i := by omega
      simp [h8, h0, hm]
    · have hq : i / 8 = (i - 8) / 8 + 1 := by omega
      have hm : i % 8 = (i - 8) % 8 := by omega
      have hb : b.getLsbD i = false := BitVec.getLsbD_of_ge _ _ (by omega)
      simp [h8, hb, hq, ih (i - 8) (by omega), hm]

end Sys2Proof.Machine
end

