-- ==== Sys2Proof/Laws/State.lean ====
section
/-! SUPPORT. One lemma per field per register update of Machine/Ops.lean, BitSerial.lean and TableDriven.lean,
so that no proof unfolds a record update. -/

namespace Sys2Proof.Machine

/-! ### setCrcReg -/

@[simp] theorem State.setCrcReg_rom (s : State) (v : Word) : (s.setCrcReg v).rom = s.rom := rfl
@[simp] theorem State.setCrcReg_lenW (s : State) (v : Word) : (s.setCrcReg v).lenW = s.lenW := rfl
@[simp] theorem State.setCrcReg_crcReg (s : State) (v : Word) : (s.setCrcReg v).crcReg = v := rfl
@[simp] theorem State.setCrcReg_latch (s : State) (v : Word) : (s.setCrcReg v).latch = s.latch := rfl
@[simp] theorem State.setCrcReg_md5 (s : State) (v : Word) : (s.setCrcReg v).md5 = s.md5 := rfl
@[simp] theorem State.setCrcReg_fault (s : State) (v : Word) : (s.setCrcReg v).fault = s.fault := rfl
@[simp] theorem State.setCrcReg_faultCode (s : State) (v : Word) : (s.setCrcReg v).faultCode = s.faultCode := rfl
@[simp] theorem State.setCrcReg_matched (s : State) (v : Word) : (s.setCrcReg v).matched = s.matched := rfl
@[simp] theorem State.setCrcReg_result (s : State) (v : Word) : (s.setCrcReg v).result = s.result := rfl
@[simp] theorem State.setCrcReg_digest (s : State) (v : Word) : (s.setCrcReg v).digest = s.digest := rfl
@[simp] theorem State.setCrcReg_tblout (s : State) (v : Word) : (s.setCrcReg v).tblout = s.tblout := rfl
@[simp] theorem State.setCrcReg_cmd (s : State) (v : Word) : (s.setCrcReg v).cmd = s.cmd := rfl
@[simp] theorem State.setCrcReg_len (s : State) (v : Word) : (s.setCrcReg v).len = s.len := rfl
@[simp] theorem State.setCrcReg_data (s : State) (v : Word) : (s.setCrcReg v).data = s.data := rfl
@[simp] theorem State.setCrcReg_buf (s : State) (v : Word) : (s.setCrcReg v).buf = s.buf := rfl
@[simp] theorem State.setCrcReg_bufLen (s : State) (v : Word) : (s.setCrcReg v).bufLen = s.bufLen := rfl
@[simp] theorem State.setCrcReg_host (s : State) (v : Word) : (s.setCrcReg v).host = s.host := rfl
@[simp] theorem State.setCrcReg_draws (s : State) (v : Word) : (s.setCrcReg v).draws = s.draws := rfl

/-! ### setResult -/

@[simp] theorem State.setResult_rom (s : State) (v : Word) : (s.setResult v).rom = s.rom := rfl
@[simp] theorem State.setResult_lenW (s : State) (v : Word) : (s.setResult v).lenW = s.lenW := rfl
@[simp] theorem State.setResult_crcReg (s : State) (v : Word) : (s.setResult v).crcReg = s.crcReg := rfl
@[simp] theorem State.setResult_latch (s : State) (v : Word) : (s.setResult v).latch = s.latch := rfl
@[simp] theorem State.setResult_md5 (s : State) (v : Word) : (s.setResult v).md5 = s.md5 := rfl
@[simp] theorem State.setResult_fault (s : State) (v : Word) : (s.setResult v).fault = s.fault := rfl
@[simp] theorem State.setResult_faultCode (s : State) (v : Word) : (s.setResult v).faultCode = s.faultCode := rfl
@[simp] theorem State.setResult_matched (s : State) (v : Word) : (s.setResult v).matched = s.matched := rfl
@[simp] theorem State.setResult_result (s : State) (v : Word) : (s.setResult v).result = v := rfl
@[simp] theorem State.setResult_digest (s : State) (v : Word) : (s.setResult v).digest = s.digest := rfl
@[simp] theorem State.setResult_tblout (s : State) (v : Word) : (s.setResult v).tblout = s.tblout := rfl
@[simp] theorem State.setResult_cmd (s : State) (v : Word) : (s.setResult v).cmd = s.cmd := rfl
@[simp] theorem State.setResult_len (s : State) (v : Word) : (s.setResult v).len = s.len := rfl
@[simp] theorem State.setResult_data (s : State) (v : Word) : (s.setResult v).data = s.data := rfl
@[simp] theorem State.setResult_buf (s : State) (v : Word) : (s.setResult v).buf = s.buf := rfl
@[simp] theorem State.setResult_bufLen (s : State) (v : Word) : (s.setResult v).bufLen = s.bufLen := rfl
@[simp] theorem State.setResult_host (s : State) (v : Word) : (s.setResult v).host = s.host := rfl
@[simp] theorem State.setResult_draws (s : State) (v : Word) : (s.setResult v).draws = s.draws := rfl

/-! ### setMatched -/

@[simp] theorem State.setMatched_rom (s : State) (v : Bool) : (s.setMatched v).rom = s.rom := rfl
@[simp] theorem State.setMatched_lenW (s : State) (v : Bool) : (s.setMatched v).lenW = s.lenW := rfl
@[simp] theorem State.setMatched_crcReg (s : State) (v : Bool) : (s.setMatched v).crcReg = s.crcReg := rfl
@[simp] theorem State.setMatched_latch (s : State) (v : Bool) : (s.setMatched v).latch = s.latch := rfl
@[simp] theorem State.setMatched_md5 (s : State) (v : Bool) : (s.setMatched v).md5 = s.md5 := rfl
@[simp] theorem State.setMatched_fault (s : State) (v : Bool) : (s.setMatched v).fault = s.fault := rfl
@[simp] theorem State.setMatched_faultCode (s : State) (v : Bool) : (s.setMatched v).faultCode = s.faultCode := rfl
@[simp] theorem State.setMatched_matched (s : State) (v : Bool) : (s.setMatched v).matched = v := rfl
@[simp] theorem State.setMatched_result (s : State) (v : Bool) : (s.setMatched v).result = s.result := rfl
@[simp] theorem State.setMatched_digest (s : State) (v : Bool) : (s.setMatched v).digest = s.digest := rfl
@[simp] theorem State.setMatched_tblout (s : State) (v : Bool) : (s.setMatched v).tblout = s.tblout := rfl
@[simp] theorem State.setMatched_cmd (s : State) (v : Bool) : (s.setMatched v).cmd = s.cmd := rfl
@[simp] theorem State.setMatched_len (s : State) (v : Bool) : (s.setMatched v).len = s.len := rfl
@[simp] theorem State.setMatched_data (s : State) (v : Bool) : (s.setMatched v).data = s.data := rfl
@[simp] theorem State.setMatched_buf (s : State) (v : Bool) : (s.setMatched v).buf = s.buf := rfl
@[simp] theorem State.setMatched_bufLen (s : State) (v : Bool) : (s.setMatched v).bufLen = s.bufLen := rfl
@[simp] theorem State.setMatched_host (s : State) (v : Bool) : (s.setMatched v).host = s.host := rfl
@[simp] theorem State.setMatched_draws (s : State) (v : Bool) : (s.setMatched v).draws = s.draws := rfl

/-! ### setTblout -/

@[simp] theorem State.setTblout_rom (s : State) (v : Vector Word 256) : (s.setTblout v).rom = s.rom := rfl
@[simp] theorem State.setTblout_lenW (s : State) (v : Vector Word 256) : (s.setTblout v).lenW = s.lenW := rfl
@[simp] theorem State.setTblout_crcReg (s : State) (v : Vector Word 256) : (s.setTblout v).crcReg = s.crcReg := rfl
@[simp] theorem State.setTblout_latch (s : State) (v : Vector Word 256) : (s.setTblout v).latch = s.latch := rfl
@[simp] theorem State.setTblout_md5 (s : State) (v : Vector Word 256) : (s.setTblout v).md5 = s.md5 := rfl
@[simp] theorem State.setTblout_fault (s : State) (v : Vector Word 256) : (s.setTblout v).fault = s.fault := rfl
@[simp] theorem State.setTblout_faultCode (s : State) (v : Vector Word 256) :
    (s.setTblout v).faultCode = s.faultCode := rfl
@[simp] theorem State.setTblout_matched (s : State) (v : Vector Word 256) : (s.setTblout v).matched = s.matched := rfl
@[simp] theorem State.setTblout_result (s : State) (v : Vector Word 256) : (s.setTblout v).result = s.result := rfl
@[simp] theorem State.setTblout_digest (s : State) (v : Vector Word 256) : (s.setTblout v).digest = s.digest := rfl
@[simp] theorem State.setTblout_tblout (s : State) (v : Vector Word 256) : (s.setTblout v).tblout = v := rfl
@[simp] theorem State.setTblout_cmd (s : State) (v : Vector Word 256) : (s.setTblout v).cmd = s.cmd := rfl
@[simp] theorem State.setTblout_len (s : State) (v : Vector Word 256) : (s.setTblout v).len = s.len := rfl
@[simp] theorem State.setTblout_data (s : State) (v : Vector Word 256) : (s.setTblout v).data = s.data := rfl
@[simp] theorem State.setTblout_buf (s : State) (v : Vector Word 256) : (s.setTblout v).buf = s.buf := rfl
@[simp] theorem State.setTblout_bufLen (s : State) (v : Vector Word 256) : (s.setTblout v).bufLen = s.bufLen := rfl
@[simp] theorem State.setTblout_host (s : State) (v : Vector Word 256) : (s.setTblout v).host = s.host := rfl
@[simp] theorem State.setTblout_draws (s : State) (v : Vector Word 256) : (s.setTblout v).draws = s.draws := rfl

/-! ### setDigest -/

@[simp] theorem State.setDigest_rom (s : State) (v : Vector Byte 16) : (s.setDigest v).rom = s.rom := rfl
@[simp] theorem State.setDigest_lenW (s : State) (v : Vector Byte 16) : (s.setDigest v).lenW = s.lenW := rfl
@[simp] theorem State.setDigest_crcReg (s : State) (v : Vector Byte 16) : (s.setDigest v).crcReg = s.crcReg := rfl
@[simp] theorem State.setDigest_latch (s : State) (v : Vector Byte 16) : (s.setDigest v).latch = s.latch := rfl
@[simp] theorem State.setDigest_md5 (s : State) (v : Vector Byte 16) : (s.setDigest v).md5 = s.md5 := rfl
@[simp] theorem State.setDigest_fault (s : State) (v : Vector Byte 16) : (s.setDigest v).fault = s.fault := rfl
@[simp] theorem State.setDigest_faultCode (s : State) (v : Vector Byte 16) :
    (s.setDigest v).faultCode = s.faultCode := rfl
@[simp] theorem State.setDigest_matched (s : State) (v : Vector Byte 16) : (s.setDigest v).matched = s.matched := rfl
@[simp] theorem State.setDigest_result (s : State) (v : Vector Byte 16) : (s.setDigest v).result = s.result := rfl
@[simp] theorem State.setDigest_digest (s : State) (v : Vector Byte 16) : (s.setDigest v).digest = v := rfl
@[simp] theorem State.setDigest_tblout (s : State) (v : Vector Byte 16) : (s.setDigest v).tblout = s.tblout := rfl
@[simp] theorem State.setDigest_cmd (s : State) (v : Vector Byte 16) : (s.setDigest v).cmd = s.cmd := rfl
@[simp] theorem State.setDigest_len (s : State) (v : Vector Byte 16) : (s.setDigest v).len = s.len := rfl
@[simp] theorem State.setDigest_data (s : State) (v : Vector Byte 16) : (s.setDigest v).data = s.data := rfl
@[simp] theorem State.setDigest_buf (s : State) (v : Vector Byte 16) : (s.setDigest v).buf = s.buf := rfl
@[simp] theorem State.setDigest_bufLen (s : State) (v : Vector Byte 16) : (s.setDigest v).bufLen = s.bufLen := rfl
@[simp] theorem State.setDigest_host (s : State) (v : Vector Byte 16) : (s.setDigest v).host = s.host := rfl
@[simp] theorem State.setDigest_draws (s : State) (v : Vector Byte 16) : (s.setDigest v).draws = s.draws := rfl

/-! ### setMd5 -/

@[simp] theorem State.setMd5_rom (s : State) (v : Md5Context) : (s.setMd5 v).rom = s.rom := rfl
@[simp] theorem State.setMd5_lenW (s : State) (v : Md5Context) : (s.setMd5 v).lenW = s.lenW := rfl
@[simp] theorem State.setMd5_crcReg (s : State) (v : Md5Context) : (s.setMd5 v).crcReg = s.crcReg := rfl
@[simp] theorem State.setMd5_latch (s : State) (v : Md5Context) : (s.setMd5 v).latch = s.latch := rfl
@[simp] theorem State.setMd5_md5 (s : State) (v : Md5Context) : (s.setMd5 v).md5 = v := rfl
@[simp] theorem State.setMd5_fault (s : State) (v : Md5Context) : (s.setMd5 v).fault = s.fault := rfl
@[simp] theorem State.setMd5_faultCode (s : State) (v : Md5Context) : (s.setMd5 v).faultCode = s.faultCode := rfl
@[simp] theorem State.setMd5_matched (s : State) (v : Md5Context) : (s.setMd5 v).matched = s.matched := rfl
@[simp] theorem State.setMd5_result (s : State) (v : Md5Context) : (s.setMd5 v).result = s.result := rfl
@[simp] theorem State.setMd5_digest (s : State) (v : Md5Context) : (s.setMd5 v).digest = s.digest := rfl
@[simp] theorem State.setMd5_tblout (s : State) (v : Md5Context) : (s.setMd5 v).tblout = s.tblout := rfl
@[simp] theorem State.setMd5_cmd (s : State) (v : Md5Context) : (s.setMd5 v).cmd = s.cmd := rfl
@[simp] theorem State.setMd5_len (s : State) (v : Md5Context) : (s.setMd5 v).len = s.len := rfl
@[simp] theorem State.setMd5_data (s : State) (v : Md5Context) : (s.setMd5 v).data = s.data := rfl
@[simp] theorem State.setMd5_buf (s : State) (v : Md5Context) : (s.setMd5 v).buf = s.buf := rfl
@[simp] theorem State.setMd5_bufLen (s : State) (v : Md5Context) : (s.setMd5 v).bufLen = s.bufLen := rfl
@[simp] theorem State.setMd5_host (s : State) (v : Md5Context) : (s.setMd5 v).host = s.host := rfl
@[simp] theorem State.setMd5_draws (s : State) (v : Md5Context) : (s.setMd5 v).draws = s.draws := rfl

/-! ### setBuf -/

@[simp] theorem State.setBuf_rom (s : State) (v : Memory) : (s.setBuf v).rom = s.rom := rfl
@[simp] theorem State.setBuf_lenW (s : State) (v : Memory) : (s.setBuf v).lenW = s.lenW := rfl
@[simp] theorem State.setBuf_crcReg (s : State) (v : Memory) : (s.setBuf v).crcReg = s.crcReg := rfl
@[simp] theorem State.setBuf_latch (s : State) (v : Memory) : (s.setBuf v).latch = s.latch := rfl
@[simp] theorem State.setBuf_md5 (s : State) (v : Memory) : (s.setBuf v).md5 = s.md5 := rfl
@[simp] theorem State.setBuf_fault (s : State) (v : Memory) : (s.setBuf v).fault = s.fault := rfl
@[simp] theorem State.setBuf_faultCode (s : State) (v : Memory) : (s.setBuf v).faultCode = s.faultCode := rfl
@[simp] theorem State.setBuf_matched (s : State) (v : Memory) : (s.setBuf v).matched = s.matched := rfl
@[simp] theorem State.setBuf_result (s : State) (v : Memory) : (s.setBuf v).result = s.result := rfl
@[simp] theorem State.setBuf_digest (s : State) (v : Memory) : (s.setBuf v).digest = s.digest := rfl
@[simp] theorem State.setBuf_tblout (s : State) (v : Memory) : (s.setBuf v).tblout = s.tblout := rfl
@[simp] theorem State.setBuf_cmd (s : State) (v : Memory) : (s.setBuf v).cmd = s.cmd := rfl
@[simp] theorem State.setBuf_len (s : State) (v : Memory) : (s.setBuf v).len = s.len := rfl
@[simp] theorem State.setBuf_data (s : State) (v : Memory) : (s.setBuf v).data = s.data := rfl
@[simp] theorem State.setBuf_buf (s : State) (v : Memory) : (s.setBuf v).buf = v := rfl
@[simp] theorem State.setBuf_bufLen (s : State) (v : Memory) : (s.setBuf v).bufLen = s.bufLen := rfl
@[simp] theorem State.setBuf_host (s : State) (v : Memory) : (s.setBuf v).host = s.host := rfl
@[simp] theorem State.setBuf_draws (s : State) (v : Memory) : (s.setBuf v).draws = s.draws := rfl

/-! ### freeCrcReg -/

@[simp] theorem State.freeCrcReg_rom (s : State) (W : Width) : (s.freeCrcReg W).rom = s.rom := rfl
@[simp] theorem State.freeCrcReg_lenW (s : State) (W : Width) : (s.freeCrcReg W).lenW = s.lenW := rfl
@[simp] theorem State.freeCrcReg_crcReg (s : State) (W : Width) :
    (s.freeCrcReg W).crcReg = (Config.free .packetCrcReg W.bits s.draws).setWidth 32 := rfl
@[simp] theorem State.freeCrcReg_latch (s : State) (W : Width) : (s.freeCrcReg W).latch = s.latch := rfl
@[simp] theorem State.freeCrcReg_md5 (s : State) (W : Width) : (s.freeCrcReg W).md5 = s.md5 := rfl
@[simp] theorem State.freeCrcReg_fault (s : State) (W : Width) : (s.freeCrcReg W).fault = s.fault := rfl
@[simp] theorem State.freeCrcReg_faultCode (s : State) (W : Width) : (s.freeCrcReg W).faultCode = s.faultCode := rfl
@[simp] theorem State.freeCrcReg_matched (s : State) (W : Width) : (s.freeCrcReg W).matched = s.matched := rfl
@[simp] theorem State.freeCrcReg_result (s : State) (W : Width) : (s.freeCrcReg W).result = s.result := rfl
@[simp] theorem State.freeCrcReg_digest (s : State) (W : Width) : (s.freeCrcReg W).digest = s.digest := rfl
@[simp] theorem State.freeCrcReg_tblout (s : State) (W : Width) : (s.freeCrcReg W).tblout = s.tblout := rfl
@[simp] theorem State.freeCrcReg_cmd (s : State) (W : Width) : (s.freeCrcReg W).cmd = s.cmd := rfl
@[simp] theorem State.freeCrcReg_len (s : State) (W : Width) : (s.freeCrcReg W).len = s.len := rfl
@[simp] theorem State.freeCrcReg_data (s : State) (W : Width) : (s.freeCrcReg W).data = s.data := rfl
@[simp] theorem State.freeCrcReg_buf (s : State) (W : Width) : (s.freeCrcReg W).buf = s.buf := rfl
@[simp] theorem State.freeCrcReg_bufLen (s : State) (W : Width) : (s.freeCrcReg W).bufLen = s.bufLen := rfl
@[simp] theorem State.freeCrcReg_host (s : State) (W : Width) : (s.freeCrcReg W).host = s.host := rfl
@[simp] theorem State.freeCrcReg_draws (s : State) (W : Width) : (s.freeCrcReg W).draws = s.draws + 1 := rfl

/-! ### loadLatches -/

@[simp] theorem State.loadLatches_rom (s : State) {W : Width} (m : CrcModel W) (right : Bool) :
    (s.loadLatches m right).rom = s.rom := rfl
@[simp] theorem State.loadLatches_lenW (s : State) {W : Width} (m : CrcModel W) (right : Bool) :
    (s.loadLatches m right).lenW = s.lenW := rfl
@[simp] theorem State.loadLatches_crcReg (s : State) {W : Width} (m : CrcModel W) (right : Bool) :
    (s.loadLatches m right).crcReg = s.crcReg := rfl
@[simp] theorem State.loadLatches_latch (s : State) {W : Width} (m : CrcModel W) (right : Bool) :
    (s.loadLatches m right).latch = { pW := W, pPoly := m.poly.setWidth 32, pInit := m.init.setWidth 32, pXorout := m.xorout.setWidth 32, pRefin := m.refin, pRefout := m.refout, pRpoly := if right then (reflect m.poly).setWidth 32 else s.latch.pRpoly } := rfl
@[simp] theorem State.loadLatches_md5 (s : State) {W : Width} (m : CrcModel W) (right : Bool) :
    (s.loadLatches m right).md5 = s.md5 := rfl
@[simp] theorem State.loadLatches_fault (s : State) {W : Width} (m : CrcModel W) (right : Bool) :
    (s.loadLatches m right).fault = s.fault := rfl
@[simp] theorem State.loadLatches_faultCode (s : State) {W : Width} (m : CrcModel W) (right : Bool) :
    (s.loadLatches m right).faultCode = s.faultCode := rfl
@[simp] theorem State.loadLatches_matched (s : State) {W : Width} (m : CrcModel W) (right : Bool) :
    (s.loadLatches m right).matched = s.matched := rfl
@[simp] theorem State.loadLatches_result (s : State) {W : Width} (m : CrcModel W) (right : Bool) :
    (s.loadLatches m right).result = s.result := rfl
@[simp] theorem State.loadLatches_digest (s : State) {W : Width} (m : CrcModel W) (right : Bool) :
    (s.loadLatches m right).digest = s.digest := rfl
@[simp] theorem State.loadLatches_tblout (s : State) {W : Width} (m : CrcModel W) (right : Bool) :
    (s.loadLatches m right).tblout = s.tblout := rfl
@[simp] theorem State.loadLatches_cmd (s : State) {W : Width} (m : CrcModel W) (right : Bool) :
    (s.loadLatches m right).cmd = s.cmd := rfl
@[simp] theorem State.loadLatches_len (s : State) {W : Width} (m : CrcModel W) (right : Bool) :
    (s.loadLatches m right).len = s.len := rfl
@[simp] theorem State.loadLatches_data (s : State) {W : Width} (m : CrcModel W) (right : Bool) :
    (s.loadLatches m right).data = s.data := rfl
@[simp] theorem State.loadLatches_buf (s : State) {W : Width} (m : CrcModel W) (right : Bool) :
    (s.loadLatches m right).buf = s.buf := rfl
@[simp] theorem State.loadLatches_bufLen (s : State) {W : Width} (m : CrcModel W) (right : Bool) :
    (s.loadLatches m right).bufLen = s.bufLen := rfl
@[simp] theorem State.loadLatches_host (s : State) {W : Width} (m : CrcModel W) (right : Bool) :
    (s.loadLatches m right).host = s.host := rfl
@[simp] theorem State.loadLatches_draws (s : State) {W : Width} (m : CrcModel W) (right : Bool) :
    (s.loadLatches m right).draws = s.draws := rfl

/-! ### raise -/

@[simp] theorem State.raise_rom (s : State) (e : FaultCode) : (raise e s).rom = s.rom := rfl
@[simp] theorem State.raise_lenW (s : State) (e : FaultCode) : (raise e s).lenW = s.lenW := rfl
@[simp] theorem State.raise_crcReg (s : State) (e : FaultCode) : (raise e s).crcReg = s.crcReg := rfl
@[simp] theorem State.raise_latch (s : State) (e : FaultCode) : (raise e s).latch = s.latch := rfl
@[simp] theorem State.raise_md5 (s : State) (e : FaultCode) : (raise e s).md5 = s.md5 := rfl
@[simp] theorem State.raise_fault (s : State) (e : FaultCode) : (raise e s).fault = true := rfl
@[simp] theorem State.raise_faultCode (s : State) (e : FaultCode) : (raise e s).faultCode = e := rfl
@[simp] theorem State.raise_matched (s : State) (e : FaultCode) : (raise e s).matched = s.matched := rfl
@[simp] theorem State.raise_result (s : State) (e : FaultCode) : (raise e s).result = s.result := rfl
@[simp] theorem State.raise_digest (s : State) (e : FaultCode) : (raise e s).digest = s.digest := rfl
@[simp] theorem State.raise_tblout (s : State) (e : FaultCode) : (raise e s).tblout = s.tblout := rfl
@[simp] theorem State.raise_cmd (s : State) (e : FaultCode) : (raise e s).cmd = s.cmd := rfl
@[simp] theorem State.raise_len (s : State) (e : FaultCode) : (raise e s).len = s.len := rfl
@[simp] theorem State.raise_data (s : State) (e : FaultCode) : (raise e s).data = s.data := rfl
@[simp] theorem State.raise_buf (s : State) (e : FaultCode) : (raise e s).buf = s.buf := rfl
@[simp] theorem State.raise_bufLen (s : State) (e : FaultCode) : (raise e s).bufLen = s.bufLen := rfl
@[simp] theorem State.raise_host (s : State) (e : FaultCode) : (raise e s).host = s.host := rfl
@[simp] theorem State.raise_draws (s : State) (e : FaultCode) : (raise e s).draws = s.draws := rfl

/-! ### hostMoved -/

@[simp] theorem State.hostMoved_rom (s : State) (rest : List HostAction) : (s.hostMoved rest).rom = s.rom := rfl
@[simp] theorem State.hostMoved_lenW (s : State) (rest : List HostAction) : (s.hostMoved rest).lenW = s.lenW := rfl
@[simp] theorem State.hostMoved_crcReg (s : State) (rest : List HostAction) :
    (s.hostMoved rest).crcReg = s.crcReg := rfl
@[simp] theorem State.hostMoved_latch (s : State) (rest : List HostAction) : (s.hostMoved rest).latch = s.latch := rfl
@[simp] theorem State.hostMoved_md5 (s : State) (rest : List HostAction) : (s.hostMoved rest).md5 = s.md5 := rfl
@[simp] theorem State.hostMoved_fault (s : State) (rest : List HostAction) : (s.hostMoved rest).fault = s.fault := rfl
@[simp] theorem State.hostMoved_faultCode (s : State) (rest : List HostAction) :
    (s.hostMoved rest).faultCode = s.faultCode := rfl
@[simp] theorem State.hostMoved_matched (s : State) (rest : List HostAction) :
    (s.hostMoved rest).matched = s.matched := rfl
@[simp] theorem State.hostMoved_result (s : State) (rest : List HostAction) :
    (s.hostMoved rest).result = s.result := rfl
@[simp] theorem State.hostMoved_digest (s : State) (rest : List HostAction) :
    (s.hostMoved rest).digest = s.digest := rfl
@[simp] theorem State.hostMoved_tblout (s : State) (rest : List HostAction) :
    (s.hostMoved rest).tblout = s.tblout := rfl
@[simp] theorem State.hostMoved_cmd (s : State) (rest : List HostAction) : (s.hostMoved rest).cmd = s.cmd := rfl
@[simp] theorem State.hostMoved_len (s : State) (rest : List HostAction) : (s.hostMoved rest).len = s.len := rfl
@[simp] theorem State.hostMoved_data (s : State) (rest : List HostAction) : (s.hostMoved rest).data = s.data := rfl
@[simp] theorem State.hostMoved_buf (s : State) (rest : List HostAction) : (s.hostMoved rest).buf = s.buf := rfl
@[simp] theorem State.hostMoved_bufLen (s : State) (rest : List HostAction) :
    (s.hostMoved rest).bufLen = s.bufLen := rfl
@[simp] theorem State.hostMoved_host (s : State) (rest : List HostAction) : (s.hostMoved rest).host = rest := rfl
@[simp] theorem State.hostMoved_draws (s : State) (rest : List HostAction) : (s.hostMoved rest).draws = s.draws := rfl

/-! ### present -/

@[simp] theorem State.present_rom (s : State) (w : Word) : (s.present w).rom = s.rom := rfl
@[simp] theorem State.present_lenW (s : State) (w : Word) : (s.present w).lenW = s.lenW := rfl
@[simp] theorem State.present_crcReg (s : State) (w : Word) : (s.present w).crcReg = s.crcReg := rfl
@[simp] theorem State.present_latch (s : State) (w : Word) : (s.present w).latch = s.latch := rfl
@[simp] theorem State.present_md5 (s : State) (w : Word) : (s.present w).md5 = s.md5 := rfl
@[simp] theorem State.present_fault (s : State) (w : Word) : (s.present w).fault = s.fault := rfl
@[simp] theorem State.present_faultCode (s : State) (w : Word) : (s.present w).faultCode = s.faultCode := rfl
@[simp] theorem State.present_matched (s : State) (w : Word) : (s.present w).matched = s.matched := rfl
@[simp] theorem State.present_result (s : State) (w : Word) : (s.present w).result = s.result := rfl
@[simp] theorem State.present_digest (s : State) (w : Word) : (s.present w).digest = s.digest := rfl
@[simp] theorem State.present_tblout (s : State) (w : Word) : (s.present w).tblout = s.tblout := rfl
@[simp] theorem State.present_cmd (s : State) (w : Word) : (s.present w).cmd = w := rfl
@[simp] theorem State.present_len (s : State) (w : Word) : (s.present w).len = s.len := rfl
@[simp] theorem State.present_data (s : State) (w : Word) : (s.present w).data = s.data := rfl
@[simp] theorem State.present_buf (s : State) (w : Word) : (s.present w).buf = s.buf := rfl
@[simp] theorem State.present_bufLen (s : State) (w : Word) : (s.present w).bufLen = s.bufLen := rfl
@[simp] theorem State.present_host (s : State) (w : Word) : (s.present w).host = s.host := rfl
@[simp] theorem State.present_draws (s : State) (w : Word) : (s.present w).draws = s.draws := rfl

/-! ### writeLen -/

@[simp] theorem State.writeLen_rom (s : State) (v : Nat) : (s.writeLen v).rom = s.rom := rfl
@[simp] theorem State.writeLen_lenW (s : State) (v : Nat) : (s.writeLen v).lenW = s.lenW := rfl
@[simp] theorem State.writeLen_crcReg (s : State) (v : Nat) : (s.writeLen v).crcReg = s.crcReg := rfl
@[simp] theorem State.writeLen_latch (s : State) (v : Nat) : (s.writeLen v).latch = s.latch := rfl
@[simp] theorem State.writeLen_md5 (s : State) (v : Nat) : (s.writeLen v).md5 = s.md5 := rfl
@[simp] theorem State.writeLen_fault (s : State) (v : Nat) : (s.writeLen v).fault = s.fault := rfl
@[simp] theorem State.writeLen_faultCode (s : State) (v : Nat) : (s.writeLen v).faultCode = s.faultCode := rfl
@[simp] theorem State.writeLen_matched (s : State) (v : Nat) : (s.writeLen v).matched = s.matched := rfl
@[simp] theorem State.writeLen_result (s : State) (v : Nat) : (s.writeLen v).result = s.result := rfl
@[simp] theorem State.writeLen_digest (s : State) (v : Nat) : (s.writeLen v).digest = s.digest := rfl
@[simp] theorem State.writeLen_tblout (s : State) (v : Nat) : (s.writeLen v).tblout = s.tblout := rfl
@[simp] theorem State.writeLen_cmd (s : State) (v : Nat) : (s.writeLen v).cmd = s.cmd := rfl
@[simp] theorem State.writeLen_len (s : State) (v : Nat) : (s.writeLen v).len = v % 2 ^ s.lenW := rfl
@[simp] theorem State.writeLen_data (s : State) (v : Nat) : (s.writeLen v).data = s.data := rfl
@[simp] theorem State.writeLen_buf (s : State) (v : Nat) : (s.writeLen v).buf = s.buf := rfl
@[simp] theorem State.writeLen_bufLen (s : State) (v : Nat) : (s.writeLen v).bufLen = s.bufLen := rfl
@[simp] theorem State.writeLen_host (s : State) (v : Nat) : (s.writeLen v).host = s.host := rfl
@[simp] theorem State.writeLen_draws (s : State) (v : Nat) : (s.writeLen v).draws = s.draws := rfl

/-! ### supplyData -/

@[simp] theorem State.supplyData_rom (s : State) (bytes : List Byte) : (s.supplyData bytes).rom = s.rom := rfl
@[simp] theorem State.supplyData_lenW (s : State) (bytes : List Byte) : (s.supplyData bytes).lenW = s.lenW := rfl
@[simp] theorem State.supplyData_crcReg (s : State) (bytes : List Byte) :
    (s.supplyData bytes).crcReg = s.crcReg := rfl
@[simp] theorem State.supplyData_latch (s : State) (bytes : List Byte) : (s.supplyData bytes).latch = s.latch := rfl
@[simp] theorem State.supplyData_md5 (s : State) (bytes : List Byte) : (s.supplyData bytes).md5 = s.md5 := rfl
@[simp] theorem State.supplyData_fault (s : State) (bytes : List Byte) : (s.supplyData bytes).fault = s.fault := rfl
@[simp] theorem State.supplyData_faultCode (s : State) (bytes : List Byte) :
    (s.supplyData bytes).faultCode = s.faultCode := rfl
@[simp] theorem State.supplyData_matched (s : State) (bytes : List Byte) :
    (s.supplyData bytes).matched = s.matched := rfl
@[simp] theorem State.supplyData_result (s : State) (bytes : List Byte) :
    (s.supplyData bytes).result = s.result := rfl
@[simp] theorem State.supplyData_digest (s : State) (bytes : List Byte) :
    (s.supplyData bytes).digest = s.digest := rfl
@[simp] theorem State.supplyData_tblout (s : State) (bytes : List Byte) :
    (s.supplyData bytes).tblout = s.tblout := rfl
@[simp] theorem State.supplyData_cmd (s : State) (bytes : List Byte) : (s.supplyData bytes).cmd = s.cmd := rfl
@[simp] theorem State.supplyData_len (s : State) (bytes : List Byte) : (s.supplyData bytes).len = s.len := rfl
@[simp] theorem State.supplyData_data (s : State) (bytes : List Byte) :
    (s.supplyData bytes).data = Memory.ofBytes bytes := rfl
@[simp] theorem State.supplyData_buf (s : State) (bytes : List Byte) : (s.supplyData bytes).buf = s.buf := rfl
@[simp] theorem State.supplyData_bufLen (s : State) (bytes : List Byte) :
    (s.supplyData bytes).bufLen = s.bufLen := rfl
@[simp] theorem State.supplyData_host (s : State) (bytes : List Byte) : (s.supplyData bytes).host = s.host := rfl
@[simp] theorem State.supplyData_draws (s : State) (bytes : List Byte) : (s.supplyData bytes).draws = s.draws := rfl

/-! ### handBuffer -/

@[simp] theorem State.handBuffer_rom (s : State) (bytes : List Byte) : (s.handBuffer bytes).rom = s.rom := rfl
@[simp] theorem State.handBuffer_lenW (s : State) (bytes : List Byte) : (s.handBuffer bytes).lenW = s.lenW := rfl
@[simp] theorem State.handBuffer_crcReg (s : State) (bytes : List Byte) :
    (s.handBuffer bytes).crcReg = s.crcReg := rfl
@[simp] theorem State.handBuffer_latch (s : State) (bytes : List Byte) : (s.handBuffer bytes).latch = s.latch := rfl
@[simp] theorem State.handBuffer_md5 (s : State) (bytes : List Byte) : (s.handBuffer bytes).md5 = s.md5 := rfl
@[simp] theorem State.handBuffer_fault (s : State) (bytes : List Byte) : (s.handBuffer bytes).fault = s.fault := rfl
@[simp] theorem State.handBuffer_faultCode (s : State) (bytes : List Byte) :
    (s.handBuffer bytes).faultCode = s.faultCode := rfl
@[simp] theorem State.handBuffer_matched (s : State) (bytes : List Byte) :
    (s.handBuffer bytes).matched = s.matched := rfl
@[simp] theorem State.handBuffer_result (s : State) (bytes : List Byte) :
    (s.handBuffer bytes).result = s.result := rfl
@[simp] theorem State.handBuffer_digest (s : State) (bytes : List Byte) :
    (s.handBuffer bytes).digest = s.digest := rfl
@[simp] theorem State.handBuffer_tblout (s : State) (bytes : List Byte) :
    (s.handBuffer bytes).tblout = s.tblout := rfl
@[simp] theorem State.handBuffer_cmd (s : State) (bytes : List Byte) : (s.handBuffer bytes).cmd = s.cmd := rfl
@[simp] theorem State.handBuffer_len (s : State) (bytes : List Byte) : (s.handBuffer bytes).len = s.len := rfl
@[simp] theorem State.handBuffer_data (s : State) (bytes : List Byte) : (s.handBuffer bytes).data = s.data := rfl
@[simp] theorem State.handBuffer_buf (s : State) (bytes : List Byte) :
    (s.handBuffer bytes).buf = Memory.ofBytes bytes := rfl
@[simp] theorem State.handBuffer_bufLen (s : State) (bytes : List Byte) :
    (s.handBuffer bytes).bufLen = bytes.length := rfl
@[simp] theorem State.handBuffer_host (s : State) (bytes : List Byte) : (s.handBuffer bytes).host = s.host := rfl
@[simp] theorem State.handBuffer_draws (s : State) (bytes : List Byte) : (s.handBuffer bytes).draws = s.draws := rfl

/-! ### leaveCrc -/

@[simp] theorem State.leaveCrc_rom (s : State) {n : Nat} (c : BitVec n) : (s.leaveCrc c).rom = s.rom := rfl
@[simp] theorem State.leaveCrc_lenW (s : State) {n : Nat} (c : BitVec n) : (s.leaveCrc c).lenW = s.lenW := rfl
@[simp] theorem State.leaveCrc_crcReg (s : State) {n : Nat} (c : BitVec n) :
    (s.leaveCrc c).crcReg = c.setWidth 32 := rfl
@[simp] theorem State.leaveCrc_latch (s : State) {n : Nat} (c : BitVec n) : (s.leaveCrc c).latch = s.latch := rfl
@[simp] theorem State.leaveCrc_md5 (s : State) {n : Nat} (c : BitVec n) : (s.leaveCrc c).md5 = s.md5 := rfl
@[simp] theorem State.leaveCrc_fault (s : State) {n : Nat} (c : BitVec n) : (s.leaveCrc c).fault = s.fault := rfl
@[simp] theorem State.leaveCrc_faultCode (s : State) {n : Nat} (c : BitVec n) :
    (s.leaveCrc c).faultCode = s.faultCode := rfl
@[simp] theorem State.leaveCrc_matched (s : State) {n : Nat} (c : BitVec n) :
    (s.leaveCrc c).matched = s.matched := rfl
@[simp] theorem State.leaveCrc_result (s : State) {n : Nat} (c : BitVec n) :
    (s.leaveCrc c).result = c.setWidth 32 := rfl
@[simp] theorem State.leaveCrc_digest (s : State) {n : Nat} (c : BitVec n) : (s.leaveCrc c).digest = s.digest := rfl
@[simp] theorem State.leaveCrc_tblout (s : State) {n : Nat} (c : BitVec n) : (s.leaveCrc c).tblout = s.tblout := rfl
@[simp] theorem State.leaveCrc_cmd (s : State) {n : Nat} (c : BitVec n) : (s.leaveCrc c).cmd = s.cmd := rfl
@[simp] theorem State.leaveCrc_len (s : State) {n : Nat} (c : BitVec n) : (s.leaveCrc c).len = s.len := rfl
@[simp] theorem State.leaveCrc_data (s : State) {n : Nat} (c : BitVec n) : (s.leaveCrc c).data = s.data := rfl
@[simp] theorem State.leaveCrc_buf (s : State) {n : Nat} (c : BitVec n) : (s.leaveCrc c).buf = s.buf := rfl
@[simp] theorem State.leaveCrc_bufLen (s : State) {n : Nat} (c : BitVec n) : (s.leaveCrc c).bufLen = s.bufLen := rfl
@[simp] theorem State.leaveCrc_host (s : State) {n : Nat} (c : BitVec n) : (s.leaveCrc c).host = s.host := rfl
@[simp] theorem State.leaveCrc_draws (s : State) {n : Nat} (c : BitVec n) : (s.leaveCrc c).draws = s.draws := rfl

/-! ### leaveTableCrc -/

@[simp] theorem State.leaveTableCrc_rom (s : State) {W : Width} (m : CrcModel W) (d : List Byte) :
    (s.leaveTableCrc m d).rom = s.rom := rfl
@[simp] theorem State.leaveTableCrc_lenW (s : State) {W : Width} (m : CrcModel W) (d : List Byte) :
    (s.leaveTableCrc m d).lenW = s.lenW := rfl
@[simp] theorem State.leaveTableCrc_crcReg (s : State) {W : Width} (m : CrcModel W) (d : List Byte) :
    (s.leaveTableCrc m d).crcReg = (crcTableReg m d).setWidth 32 := rfl
@[simp] theorem State.leaveTableCrc_latch (s : State) {W : Width} (m : CrcModel W) (d : List Byte) :
    (s.leaveTableCrc m d).latch = s.latch := rfl
@[simp] theorem State.leaveTableCrc_md5 (s : State) {W : Width} (m : CrcModel W) (d : List Byte) :
    (s.leaveTableCrc m d).md5 = s.md5 := rfl
@[simp] theorem State.leaveTableCrc_fault (s : State) {W : Width} (m : CrcModel W) (d : List Byte) :
    (s.leaveTableCrc m d).fault = s.fault := rfl
@[simp] theorem State.leaveTableCrc_faultCode (s : State) {W : Width} (m : CrcModel W) (d : List Byte) :
    (s.leaveTableCrc m d).faultCode = s.faultCode := rfl
@[simp] theorem State.leaveTableCrc_matched (s : State) {W : Width} (m : CrcModel W) (d : List Byte) :
    (s.leaveTableCrc m d).matched = s.matched := rfl
@[simp] theorem State.leaveTableCrc_result (s : State) {W : Width} (m : CrcModel W) (d : List Byte) :
    (s.leaveTableCrc m d).result = (crcTable m d).setWidth 32 := rfl
@[simp] theorem State.leaveTableCrc_digest (s : State) {W : Width} (m : CrcModel W) (d : List Byte) :
    (s.leaveTableCrc m d).digest = s.digest := rfl
@[simp] theorem State.leaveTableCrc_tblout (s : State) {W : Width} (m : CrcModel W) (d : List Byte) :
    (s.leaveTableCrc m d).tblout = s.tblout := rfl
@[simp] theorem State.leaveTableCrc_cmd (s : State) {W : Width} (m : CrcModel W) (d : List Byte) :
    (s.leaveTableCrc m d).cmd = s.cmd := rfl
@[simp] theorem State.leaveTableCrc_len (s : State) {W : Width} (m : CrcModel W) (d : List Byte) :
    (s.leaveTableCrc m d).len = s.len := rfl
@[simp] theorem State.leaveTableCrc_data (s : State) {W : Width} (m : CrcModel W) (d : List Byte) :
    (s.leaveTableCrc m d).data = s.data := rfl
@[simp] theorem State.leaveTableCrc_buf (s : State) {W : Width} (m : CrcModel W) (d : List Byte) :
    (s.leaveTableCrc m d).buf = s.buf := rfl
@[simp] theorem State.leaveTableCrc_bufLen (s : State) {W : Width} (m : CrcModel W) (d : List Byte) :
    (s.leaveTableCrc m d).bufLen = s.bufLen := rfl
@[simp] theorem State.leaveTableCrc_host (s : State) {W : Width} (m : CrcModel W) (d : List Byte) :
    (s.leaveTableCrc m d).host = s.host := rfl
@[simp] theorem State.leaveTableCrc_draws (s : State) {W : Width} (m : CrcModel W) (d : List Byte) :
    (s.leaveTableCrc m d).draws = s.draws := rfl

/-! ### rst -/

@[simp] theorem State.rst_rom (s : State) : s.rst.rom = s.rom := rfl
@[simp] theorem State.rst_lenW (s : State) : s.rst.lenW = s.lenW := rfl
@[simp] theorem State.rst_fault (s : State) : s.rst.fault = false := rfl
@[simp] theorem State.rst_faultCode (s : State) : s.rst.faultCode = .none := rfl
@[simp] theorem State.rst_matched (s : State) : s.rst.matched = false := rfl
@[simp] theorem State.rst_data (s : State) : s.rst.data = s.data := rfl
@[simp] theorem State.rst_buf (s : State) : s.rst.buf = s.buf := rfl
@[simp] theorem State.rst_bufLen (s : State) : s.rst.bufLen = s.bufLen := rfl
@[simp] theorem State.rst_host (s : State) : s.rst.host = s.host := rfl
@[simp] theorem State.rst_draws (s : State) : s.rst.draws = s.draws + 1 := rfl
@[simp] theorem State.rst_md5_st (s : State) : s.rst.md5.st = .uninit := rfl

/-! ### The operands, as they depend on the state -/


theorem State.dataBytes_congr {s t : State} (hd : s.data = t.data) (hl : s.len = t.len) :
    s.dataBytes = t.dataBytes := by
  simp [State.dataBytes, hd, hl]

theorem State.payload_congr {s t : State} (hb : s.buf = t.buf) (hl : s.len = t.len) (W : Width) :
    s.payload W = t.payload W := by
  simp [State.payload, State.trailerOffset, hb, hl]

end Sys2Proof.Machine
end

