-- ==== Sys2Proof/Laws/Ops.lean ====
section
/-! SUPPORT. What the shared operations can do, said once: a command is ignored, raises one of its faults, or
has its effect; a step is the HOST's next action. -/

namespace Sys2Proof.Machine

theorem crcCommand_stuck {W : Width} {id : Byte} {nm lo : Bool} {s : State} {effect : CrcModel W → State}
    (hf : s.fault = true) : crcCommand W id nm lo s effect = .next s := by
  simp [crcCommand, unlessStuck, hf]

theorem crcCommand_noModel {W : Width} {id : Byte} {nm lo : Bool} {s : State} {effect : CrcModel W → State}
    (hf : s.fault = false) (hm : romLookup s.rom W id = none) :
    crcCommand W id nm lo s effect = .next (raise .errModel s) := by
  simp [crcCommand, unlessStuck, hf, hm]

theorem crcCommand_mixed {W : Width} {id : Byte} {lo : Bool} {s : State} {effect : CrcModel W → State}
    {m : CrcModel W} (hf : s.fault = false) (hm : romLookup s.rom W id = some m) (hx : m.nonmixed = false) :
    crcCommand W id true lo s effect = .next (raise .errUnsupported s) := by
  simp [crcCommand, unlessStuck, hf, hm, hx]

theorem crcCommand_badLength {W : Width} {id : Byte} {nm : Bool} {s : State} {effect : CrcModel W → State}
    {m : CrcModel W} (hf : s.fault = false) (hm : romLookup s.rom W id = some m)
    (hx : nm = true → m.nonmixed = true) :
    crcCommand W id nm false s effect = .next (raise .errBuffer s) := by
  cases nm <;> simp_all [crcCommand, unlessStuck]

theorem crcCommand_runs {W : Width} {id : Byte} {nm : Bool} {s : State} {effect : CrcModel W → State}
    {m : CrcModel W} (hf : s.fault = false) (hm : romLookup s.rom W id = some m)
    (hx : nm = true → m.nonmixed = true) :
    crcCommand W id nm true s effect = .next (effect m) := by
  cases nm <;> simp_all [crcCommand, unlessStuck]

/-- Everything a CRC command can do. -/
theorem crcCommand_cases {W : Width} {id : Byte} {nm lo : Bool} {s t : State} {effect : CrcModel W → State}
    (h : crcCommand W id nm lo s effect = .next t) :
    (s.fault = true ∧ t = s) ∨
    (s.fault = false ∧ romLookup s.rom W id = none ∧ t = raise .errModel s) ∨
    (s.fault = false ∧ ∃ m, romLookup s.rom W id = some m ∧
      ((nm = true ∧ m.nonmixed = false ∧ t = raise .errUnsupported s) ∨
       ((nm = true → m.nonmixed = true) ∧ lo = false ∧ t = raise .errBuffer s) ∨
       ((nm = true → m.nonmixed = true) ∧ lo = true ∧ t = effect m))) := by
  cases hf : s.fault with
  | true =>
    rw [crcCommand_stuck hf] at h
    exact .inl ⟨rfl, by cases h; rfl⟩
  | false =>
    right
    cases hm : romLookup s.rom W id with
    | none =>
      rw [crcCommand_noModel hf hm] at h
      exact .inl ⟨rfl, rfl, by cases h; rfl⟩
    | some m =>
      refine .inr ⟨rfl, m, rfl, ?_⟩
      by_cases hx : nm = true → m.nonmixed = true
      · cases lo with
        | false =>
          rw [crcCommand_badLength hf hm hx] at h
          exact .inr (.inl ⟨hx, rfl, by cases h; rfl⟩)
        | true =>
          rw [crcCommand_runs hf hm hx] at h
          exact .inr (.inr ⟨hx, rfl, by cases h; rfl⟩)
      · have hnm : nm = true := by by_contra hc; exact hx fun hn => absurd hn hc
        have hmx : m.nonmixed = false := by
          cases hc : m.nonmixed with
          | false => rfl
          | true => exact absurd (fun _ => hc) hx
        subst hnm
        rw [crcCommand_mixed hf hm hmx] at h
        exact .inl ⟨rfl, hmx, by cases h; rfl⟩

/-- A CRC command always answers a next state. -/
theorem crcCommand_next (W : Width) (id : Byte) (nm lo : Bool) (s : State) (effect : CrcModel W → State) :
    ∃ t, crcCommand W id nm lo s effect = .next t := by
  unfold crcCommand unlessStuck
  split
  · exact ⟨_, rfl⟩
  · split
    · exact ⟨_, rfl⟩
    · split
      · exact ⟨_, rfl⟩
      · split <;> exact ⟨_, rfl⟩

/-- Everything an MD5 command can do. -/
theorem md5Command_cases {na : Bool} {s t effect : State} (h : md5Command na s effect = .next t) :
    (s.fault = true ∧ t = s) ∨
    (s.fault = false ∧ na = true ∧ s.md5.st ≠ .active ∧ t = raise .errProtocol s) ∨
    (s.fault = false ∧ (na = true → s.md5.st = .active) ∧ t = effect) := by
  cases hf : s.fault <;> cases na <;> by_cases hs : s.md5.st = .active <;>
    simp_all [md5Command, unlessStuck]

/-- An MD5 command always answers a next state. -/
theorem md5Command_next (na : Bool) (s effect : State) : ∃ t, md5Command na s effect = .next t := by
  unfold md5Command unlessStuck
  split
  · exact ⟨_, rfl⟩
  · split <;> exact ⟨_, rfl⟩

/-- What a step does, by the HOST's next action. -/
theorem step_cases {s t : State} (h : step s = .next t) :
    (s.host = [] ∧ t = s) ∨
    ∃ rest,
      (∃ v, s.host = .writeLen v :: rest ∧ t = (s.hostMoved rest).writeLen v) ∨
      (∃ bs, s.host = .supplyData bs :: rest ∧ t = (s.hostMoved rest).supplyData bs) ∨
      (∃ bs, s.host = .handBuffer bs :: rest ∧ t = (s.hostMoved rest).handBuffer bs) ∨
      (∃ off v, s.host = .pokeBuffer off v :: rest ∧ off < s.bufLen ∧
        t = (s.hostMoved rest).setBuf (s.buf.write off v)) ∨
      (∃ w, s.host = .command w :: rest ∧ runCommand ((s.hostMoved rest).present w) = .next t) ∨
      (s.host = .rst :: rest ∧ t = (s.hostMoved rest).rst) := by
  unfold step at h
  split at h
  · next hh => exact .inl ⟨hh, by cases h; rfl⟩
  · next v rest hh => exact .inr ⟨rest, .inl ⟨v, hh, by cases h; rfl⟩⟩
  · next bs rest hh => exact .inr ⟨rest, .inr (.inl ⟨bs, hh, by cases h; rfl⟩)⟩
  · next bs rest hh => exact .inr ⟨rest, .inr (.inr (.inl ⟨bs, hh, by cases h; rfl⟩))⟩
  · next off v rest hh =>
    refine .inr ⟨rest, .inr (.inr (.inr (.inl ⟨off, v, hh, ?_⟩)))⟩
    unfold pokeBuffer at h
    split at h
    · next hlt => exact ⟨hlt, by cases h; rfl⟩
    · cases h
  · next w rest hh => exact .inr ⟨rest, .inr (.inr (.inr (.inr (.inl ⟨w, hh, h⟩))))⟩
  · next rest hh => exact .inr ⟨rest, .inr (.inr (.inr (.inr (.inr ⟨hh, by cases h; rfl⟩))))⟩

end Sys2Proof.Machine
end

