-- ==== Sys2Proof/Laws/Families.lean ====
section
/-! SUPPORT. The commands by family: what `exec` runs for `crcN_...` at each width N, the model a family
names, the case split into families, and the shared form of every CRC and MD5 command. -/

namespace Sys2Proof.Machine

/-! ## The meaning of a family -/

theorem exec_compute (W : Width) (id : Byte) (s : State) :
    exec (.compute W id) s = computeForward W id s := by cases W <;> rfl

theorem exec_computeMirror (W : Width) (id : Byte) (s : State) :
    exec (.computeMirror W id) s = computeMirror W id s := by cases W <;> rfl

theorem exec_computeTable (W : Width) (id : Byte) (s : State) :
    exec (.computeTable W id) s = computeTable W id s := by cases W <;> rfl

theorem exec_generateTable (W : Width) (id : Byte) (s : State) :
    exec (.generateTable W id) s = generateTable W id s := by cases W <;> rfl

theorem exec_append (W : Width) (id : Byte) (eng : Engine) (s : State) :
    exec (.append W id eng) s = appendTrailer W id eng s := by cases W <;> rfl

theorem exec_verify (W : Width) (id : Byte) (eng : Engine) (s : State) :
    exec (.verify W id eng) s = verifyTrailer W id eng s := by cases W <;> rfl

/-! ## The model a family names -/

@[simp] theorem model_compute (W : Width) (id : Byte) : (Instr.compute W id).model = some (W, id) := by
  cases W <;> rfl

@[simp] theorem model_computeMirror (W : Width) (id : Byte) :
    (Instr.computeMirror W id).model = some (W, id) := by cases W <;> rfl

@[simp] theorem model_computeTable (W : Width) (id : Byte) :
    (Instr.computeTable W id).model = some (W, id) := by cases W <;> rfl

@[simp] theorem model_generateTable (W : Width) (id : Byte) :
    (Instr.generateTable W id).model = some (W, id) := by cases W <;> rfl

@[simp] theorem model_append (W : Width) (id : Byte) (eng : Engine) :
    (Instr.append W id eng).model = some (W, id) := by cases W <;> rfl

@[simp] theorem model_verify (W : Width) (id : Byte) (eng : Engine) :
    (Instr.verify W id eng).model = some (W, id) := by cases W <;> rfl

/-! ## The case split -/

/-- Every command is of one family or one of the three MD5 commands. -/
theorem instr_families (i : Instr) :
    (∃ W id, i = .compute W id) ∨ (∃ W id, i = .computeMirror W id) ∨ (∃ W id, i = .computeTable W id) ∨
    (∃ W id, i = .generateTable W id) ∨ (∃ W id eng, i = .append W id eng) ∨
    (∃ W id eng, i = .verify W id eng) ∨ i = .md5Init ∨ i = .md5Update ∨ i = .md5Final := by
  cases i with
  | crc8Compute id => exact .inl ⟨.w8, id, rfl⟩
  | crc16Compute id => exact .inl ⟨.w16, id, rfl⟩
  | crc32Compute id => exact .inl ⟨.w32, id, rfl⟩
  | crc8ComputeMirror id => exact .inr (.inl ⟨.w8, id, rfl⟩)
  | crc16ComputeMirror id => exact .inr (.inl ⟨.w16, id, rfl⟩)
  | crc32ComputeMirror id => exact .inr (.inl ⟨.w32, id, rfl⟩)
  | crc8ComputeTable id => exact .inr (.inr (.inl ⟨.w8, id, rfl⟩))
  | crc16ComputeTable id => exact .inr (.inr (.inl ⟨.w16, id, rfl⟩))
  | crc32ComputeTable id => exact .inr (.inr (.inl ⟨.w32, id, rfl⟩))
  | crc8GenerateTable id => exact .inr (.inr (.inr (.inl ⟨.w8, id, rfl⟩)))
  | crc16GenerateTable id => exact .inr (.inr (.inr (.inl ⟨.w16, id, rfl⟩)))
  | crc32GenerateTable id => exact .inr (.inr (.inr (.inl ⟨.w32, id, rfl⟩)))
  | crc8Append id eng => exact .inr (.inr (.inr (.inr (.inl ⟨.w8, id, eng, rfl⟩))))
  | crc16Append id eng => exact .inr (.inr (.inr (.inr (.inl ⟨.w16, id, eng, rfl⟩))))
  | crc32Append id eng => exact .inr (.inr (.inr (.inr (.inl ⟨.w32, id, eng, rfl⟩))))
  | crc8Verify id eng => exact .inr (.inr (.inr (.inr (.inr (.inl ⟨.w8, id, eng, rfl⟩)))))
  | crc16Verify id eng => exact .inr (.inr (.inr (.inr (.inr (.inl ⟨.w16, id, eng, rfl⟩)))))
  | crc32Verify id eng => exact .inr (.inr (.inr (.inr (.inr (.inl ⟨.w32, id, eng, rfl⟩)))))
  | md5Init => simp
  | md5Update => simp
  | md5Final => simp

/-- A CRC command is `crcCommand` with an effect that touches no flag but MATCH, no MD5 state, no operand of the
HOST but BUF and no parameter; an MD5 command is `md5Command` with an effect that touches the context and DIGEST. -/
theorem exec_form (i : Instr) (s : State) :
    (∃ W id nm lo effect, i.model = some (W, id) ∧ exec i s = crcCommand W id nm lo s effect ∧
      ∀ m : CrcModel W,
        (effect m).fault = s.fault ∧ (effect m).faultCode = s.faultCode ∧ (effect m).md5 = s.md5 ∧
        (effect m).digest = s.digest ∧ (effect m).rom = s.rom ∧ (effect m).lenW = s.lenW ∧
        (effect m).cmd = s.cmd ∧ (effect m).len = s.len ∧ (effect m).data = s.data ∧ (effect m).bufLen = s.bufLen ∧
        (effect m).host = s.host) ∨
    (∃ na c d, i.model = none ∧ exec i s = md5Command na s ((s.setMd5 c).setDigest d)) := by
  rcases instr_families i with ⟨W, id, rfl⟩ | ⟨W, id, rfl⟩ | ⟨W, id, rfl⟩ | ⟨W, id, rfl⟩ | ⟨W, id, eng, rfl⟩ |
    ⟨W, id, eng, rfl⟩ | rfl | rfl | rfl
  · exact .inl ⟨W, id, _, _, _, model_compute W id, exec_compute W id s, by simp⟩
  · exact .inl ⟨W, id, _, _, _, model_computeMirror W id, exec_computeMirror W id s, by simp⟩
  · exact .inl ⟨W, id, _, _, _, model_computeTable W id, exec_computeTable W id s, by simp⟩
  · exact .inl ⟨W, id, _, _, _, model_generateTable W id, exec_generateTable W id s, by simp⟩
  · exact .inl ⟨W, id, _, _, _, model_append W id eng, exec_append W id eng s, by simp⟩
  · exact .inl ⟨W, id, _, _, _, model_verify W id eng, exec_verify W id eng s, by simp⟩
  · exact .inr ⟨_, s.md5.init, s.digest, rfl, rfl⟩
  · exact .inr ⟨_, s.md5.update s.dataBytes, s.digest, rfl, rfl⟩
  · exact .inr ⟨_, s.md5.final, digestOf s.md5.final.h, rfl, rfl⟩

/-- A property of every entry of the shipped ROM. -/
theorem shipped_forall {P : (W : Width) → CrcModel W → Prop} (h8 : ∀ m ∈ shippedCrc8, P .w8 m)
    (h16 : ∀ m ∈ shippedCrc16, P .w16 m) (h32 : ∀ m ∈ shippedCrc32, P .w32 m) (W : Width) (id : Byte)
    (m : CrcModel W) (h : romLookup shippedRom W id = some m) : P W m := by
  have hm := List.mem_of_getElem? h
  cases W with
  | w8 => exact h8 m hm
  | w16 => exact h16 m hm
  | w32 => exact h32 m hm

end Sys2Proof.Machine
end

