-- ==== Sys2Proof/Laws/Md5.lean ====
section
/-! SUPPORT. What storing one byte does to the MD5 context. -/

namespace Sys2Proof.Machine

@[simp] theorem Md5Context.push_nbits (c : Md5Context) (v : Byte) : (c.push v).nbits = c.nbits := by
  simp only [Md5Context.push]; split <;> rfl

@[simp] theorem Md5Context.push_st (c : Md5Context) (v : Byte) : (c.push v).st = c.st := by
  simp only [Md5Context.push]; split <;> rfl

@[simp] theorem Md5Context.push_buf (c : Md5Context) (v : Byte) :
    (c.push v).buf = c.buf.set c.bufLen.toNat v c.bufLen.isLt := by
  simp only [Md5Context.push]; split <;> rfl

/-- The fill count goes up by one, and back to 0 with the 64th byte. -/
theorem Md5Context.push_bufLen (c : Md5Context) (v : Byte) :
    (c.push v).bufLen.toNat = (c.bufLen.toNat + 1) % 64 := by
  simp only [Md5Context.push]
  split
  · next h => simp [Md5Context.transform, h]
  · simp [BitVec.toNat_add]

theorem Md5Context.push_below (c : Md5Context) (v : Byte) (h : c.bufLen.toNat < 63) :
    c.push v = { c with buf := c.buf.set c.bufLen.toNat v c.bufLen.isLt, bufLen := c.bufLen + 1 } := by
  simp only [Md5Context.push]
  rw [if_neg (by omega)]

theorem Md5Context.push_full (c : Md5Context) (v : Byte) (h : c.bufLen.toNat = 63) :
    (c.push v).h = md5Block c.h (c.buf.set 63 v) ∧ (c.push v).bufLen = 0 := by
  simp [Md5Context.push, h, Md5Context.transform, md5Block]

@[simp] theorem Md5Context.absorb_nbits (c : Md5Context) (v : Byte) : (c.absorb v).nbits = c.nbits + 8 := rfl

@[simp] theorem Md5Context.absorb_st (c : Md5Context) (v : Byte) : (c.absorb v).st = c.st :=
  Md5Context.push_st c v

@[simp] theorem Md5Context.absorb_bufLen (c : Md5Context) (v : Byte) :
    (c.absorb v).bufLen = (c.push v).bufLen := rfl

@[simp] theorem Md5Context.absorb_h (c : Md5Context) (v : Byte) : (c.absorb v).h = (c.push v).h := rfl

@[simp] theorem Md5Context.absorb_buf (c : Md5Context) (v : Byte) : (c.absorb v).buf = (c.push v).buf := rfl

/-! ## The commands' effects on the context -/

@[simp] theorem Md5Context.init_h (c : Md5Context) : c.init.h = md5InitialHash := rfl

@[simp] theorem Md5Context.init_nbits (c : Md5Context) : c.init.nbits = 0 := rfl

@[simp] theorem Md5Context.init_bufLen (c : Md5Context) : c.init.bufLen = 0 := rfl

@[simp] theorem Md5Context.init_st (c : Md5Context) : c.init.st = .active := rfl

@[simp] theorem Md5Context.init_buf (c : Md5Context) : c.init.buf = c.buf := rfl

@[simp] theorem Md5Context.init_work (c : Md5Context) : c.init.work = c.work := rfl

@[simp] theorem Md5Context.update_nil (c : Md5Context) : c.update [] = c := rfl

@[simp] theorem Md5Context.update_cons (c : Md5Context) (b : Byte) (bs : List Byte) :
    c.update (b :: bs) = (c.absorb b).update bs := rfl

/-- Each byte is handled alike wherever a call boundary falls (spec/44_md5.md R156). -/
theorem Md5Context.update_append (c : Md5Context) (as bs : List Byte) :
    c.update (as ++ bs) = (c.update as).update bs := List.foldl_append

@[simp] theorem Md5Context.update_st (c : Md5Context) (bs : List Byte) : (c.update bs).st = c.st := by
  induction bs generalizing c with
  | nil => rfl
  | cons b bs ih => simp [ih]

@[simp] theorem Md5Context.zeroFill_nbits (c : Md5Context) (k : Nat) : (c.zeroFill k).nbits = c.nbits := by
  induction k generalizing c with
  | zero => rfl
  | succ k ih => unfold Md5Context.zeroFill; split <;> simp [ih]

theorem Md5Context.final_st (c : Md5Context) : c.final.st = .finalized := rfl

/-- Padding bytes are not counted (spec/44_md5.md R150). -/
theorem Md5Context.final_nbits (c : Md5Context) : c.final.nbits = c.nbits := by
  have hfold (bs : List Byte) (d : Md5Context) : (bs.foldl Md5Context.push d).nbits = d.nbits := by
    induction bs generalizing d with
    | nil => rfl
    | cons b bs ih => simp [ih]
  simp only [Md5Context.final, hfold, Md5Context.zeroFill_nbits, Md5Context.push_nbits]

end Sys2Proof.Machine
end

