-- ==== Sys2Proof/Laws/Memory.lean ====
section
/-! SUPPORT. The laws of a byte space: every operation keeps the canonical form and the extent, and a read
after a write gives the byte written or the byte that was there. -/

namespace Sys2Proof.Machine

theorem cellsCanonical_iff (cs : List Host.Cell) :
    cellsCanonical cs = true ↔
      (cs.Pairwise fun c d => c.1 < d.1) ∧ ∀ c ∈ cs, c.2 ≠ Memory.unlisted := by
  simp [cellsCanonical]

theorem cellsCanonical_tail {c : Host.Cell} {cs : List Host.Cell} (h : cellsCanonical (c :: cs) = true) :
    cellsCanonical cs = true := by
  rw [cellsCanonical_iff] at h ⊢
  exact ⟨(List.pairwise_cons.1 h.1).2, fun d hd => h.2 d (List.mem_cons_of_mem _ hd)⟩

/-! ## What a write leaves listed -/

theorem mem_writeCells {cs : List Host.Cell} {a : Nat} {v : Byte} {c : Host.Cell}
    (h : c ∈ writeCells cs a v) : (c = (a, v) ∧ v ≠ Memory.unlisted) ∨ c ∈ cs := by
  induction cs with
  | nil =>
    simp only [writeCells] at h
    split at h <;> simp_all
  | cons d cs ih =>
    obtain ⟨b, u⟩ := d
    simp only [writeCells] at h
    split at h
    · split at h <;> simp_all
    · split at h
      · split at h <;> simp_all
        rcases h with h | h <;> simp [h]
      · rcases List.mem_cons.1 h with h | h
        · simp [h]
        · rcases ih h with h | h <;> simp [h]

theorem writeCells_canonical {cs : List Host.Cell} (h : cellsCanonical cs = true) (a : Nat) (v : Byte) :
    cellsCanonical (writeCells cs a v) = true := by
  induction cs with
  | nil =>
    simp only [writeCells]
    split
    · exact h
    · rw [cellsCanonical_iff]; simpa
  | cons d cs ih =>
    obtain ⟨b, u⟩ := d
    have ht := ih (cellsCanonical_tail h)
    rw [cellsCanonical_iff] at h ht ⊢
    obtain ⟨hp, hn⟩ := h
    have hp' := List.pairwise_cons.1 hp
    simp only [writeCells]
    split
    · next hlt =>
      split
      · exact ⟨hp, hn⟩
      · next hv =>
        refine ⟨List.pairwise_cons.2 ⟨?_, hp⟩, ?_⟩
        · intro c hc
          rcases List.mem_cons.1 hc with rfl | hc
          · exact hlt
          · exact Nat.lt_trans hlt (hp'.1 c hc)
        · intro c hc
          rcases List.mem_cons.1 hc with rfl | hc
          · exact hv
          · exact hn c hc
    · next hge =>
      split
      · next heq =>
        subst heq
        split
        · exact ⟨hp'.2, fun c hc => hn c (List.mem_cons_of_mem _ hc)⟩
        · next hv =>
          refine ⟨List.pairwise_cons.2 ⟨hp'.1, hp'.2⟩, ?_⟩
          intro c hc
          rcases List.mem_cons.1 hc with rfl | hc
          · exact hv
          · exact hn c (List.mem_cons_of_mem _ hc)
      · next hne =>
        refine ⟨List.pairwise_cons.2 ⟨?_, ht.1⟩, ?_⟩
        · intro c hc
          rcases mem_writeCells hc with ⟨rfl, -⟩ | hc
          · show b < a; omega
          · exact hp'.1 c hc
        · intro c hc
          rcases List.mem_cons.1 hc with rfl | hc
          · exact hn _ (List.mem_cons_self ..)
          · exact ht.2 c hc

/-! ## Reading -/

theorem readCells_of_below {cs : List Host.Cell} {a : Nat} (h : ∀ c ∈ cs, a < c.1) :
    readCells cs a = Memory.unlisted := by
  induction cs with
  | nil => rfl
  | cons d cs ih =>
    obtain ⟨b, u⟩ := d
    have hb : a < b := h (b, u) (List.mem_cons_self ..)
    simp only [readCells]
    rw [if_neg (by omega)]
    exact ih fun c hc => h c (List.mem_cons_of_mem _ hc)

theorem readCells_writeCells {cs : List Host.Cell} (h : cellsCanonical cs = true) (a b : Nat) (v : Byte) :
    readCells (writeCells cs a v) b = if b = a then v else readCells cs b := by
  induction cs with
  | nil =>
    simp only [writeCells]
    split
    · next hv => simp [readCells, hv]
    · simp [readCells]
  | cons d cs ih =>
    obtain ⟨k, u⟩ := d
    have ih := ih (cellsCanonical_tail h)
    have hp := (List.pairwise_cons.1 ((cellsCanonical_iff _).1 h).1).1
    simp only [writeCells]
    split
    · next hlt =>
      have hab : readCells ((k, u) :: cs) a = Memory.unlisted := by
        apply readCells_of_below
        intro c hc
        rcases List.mem_cons.1 hc with rfl | hc
        · exact hlt
        · exact Nat.lt_trans hlt (hp c hc)
      split
      · next hv =>
        by_cases hb : b = a
        · subst hb; simp [hab, hv]
        · simp [hb]
      · by_cases hb : b = a <;> simp [readCells, hb]
    · split
      · next heq =>
        subst heq
        have habove : readCells cs a = Memory.unlisted := readCells_of_below hp
        split
        · next hv =>
          by_cases hb : b = a
          · subst hb; simp [habove, hv]
          · simp [readCells, hb]
        · by_cases hb : b = a <;> simp [readCells, hb]
      · next hne =>
        simp only [readCells, ih]
        by_cases hb : b = k
        · subst hb
          rw [if_pos rfl, if_neg (by omega), if_pos rfl]
        · simp [hb]

/-! ## The operations on a space -/

theorem Memory.empty_wf : Memory.empty.wf = true := by decide

theorem Memory.write_wf {m : Memory} (h : m.wf = true) (off : Nat) (v : Byte) : (m.write off v).wf = true :=
  writeCells_canonical h off v

theorem Memory.writeBytes_wf {m : Memory} (h : m.wf = true) (off : Nat) (bs : List Byte) :
    (m.writeBytes off bs).wf = true := by
  induction bs generalizing m off with
  | nil => exact h
  | cons b bs ih => exact ih (Memory.write_wf h off b) (off + 1)

theorem Memory.ofBytes_wf (bs : List Byte) : (Memory.ofBytes bs).wf = true :=
  Memory.writeBytes_wf Memory.empty_wf 0 bs

theorem Memory.read_write {m : Memory} (h : m.wf = true) (off b : Nat) (v : Byte) :
    (m.write off v).read b = if b = off then v else m.read b :=
  readCells_writeCells h off b v

/-- A byte outside the range written reads as before; a byte inside it reads as the byte given for it. -/
theorem Memory.read_writeBytes {m : Memory} (h : m.wf = true) (off : Nat) (bs : List Byte) (b : Nat) :
    (m.writeBytes off bs).read b =
      if hb : off ≤ b ∧ b - off < bs.length then bs[b - off]'hb.2 else m.read b := by
  induction bs generalizing m off with
  | nil => simp [Memory.writeBytes]
  | cons c bs ih =>
    rw [Memory.writeBytes, ih (Memory.write_wf h off c) (off + 1), Memory.read_write h]
    by_cases h0 : b = off
    · subst h0
      simp
    · by_cases hlt : off ≤ b
      · have hk : b - off = (b - (off + 1)) + 1 := by omega
        have hle : off + 1 ≤ b := by omega
        by_cases hr : b - (off + 1) < bs.length
        · have hr' : b - off < (c :: bs).length := by simp; omega
          rw [dif_pos ⟨hle, hr⟩, dif_pos ⟨hlt, hr'⟩]
          simp [hk]
        · have hr' : ¬ b - off < (c :: bs).length := by simp; omega
          rw [dif_neg (fun hc => hr hc.2), dif_neg (fun hc => hr' hc.2), if_neg h0]
      · rw [dif_neg (fun hc => by omega), dif_neg (fun hc => hlt hc.1), if_neg h0]

theorem Memory.ofBytes_read (bs : List Byte) (b : Nat) :
    (Memory.ofBytes bs).read b = if hb : b < bs.length then bs[b] else Memory.unlisted := by
  rw [Memory.ofBytes, Memory.read_writeBytes Memory.empty_wf]
  simp [Memory.read, Memory.empty, readCells]

theorem Memory.readBytes_length (m : Memory) (off n : Nat) : (m.readBytes off n).length = n := by
  simp [Memory.readBytes]

theorem Memory.readBytes_getElem (m : Memory) (off n k : Nat) (h : k < (m.readBytes off n).length) :
    (m.readBytes off n)[k] = m.read (off + k) := by
  simp [Memory.readBytes]

/-- The bytes handed over are the bytes read back. -/
theorem Memory.readBytes_ofBytes (bs : List Byte) : (Memory.ofBytes bs).readBytes 0 bs.length = bs := by
  apply List.ext_getElem
  · simp [Memory.readBytes]
  · intro k h1 h2
    rw [Memory.readBytes_getElem, Memory.ofBytes_read, dif_pos (by simpa using h2)]
    simp

/-! ## The extent -/

theorem Memory.write_below {m : Memory} {extent off : Nat} (h : ∀ c ∈ m.cells, c.1 < extent)
    (ho : off < extent) (v : Byte) : ∀ c ∈ (m.write off v).cells, c.1 < extent := by
  intro c hc
  rcases mem_writeCells hc with ⟨rfl, -⟩ | hc
  · exact ho
  · exact h c hc

theorem Memory.writeBytes_below {m : Memory} {extent off : Nat} (bs : List Byte)
    (h : ∀ c ∈ m.cells, c.1 < extent) (ho : off + bs.length ≤ extent) :
    ∀ c ∈ (m.writeBytes off bs).cells, c.1 < extent := by
  induction bs generalizing m off with
  | nil => exact h
  | cons b bs ih =>
    simp only [List.length_cons] at ho
    exact ih (Memory.write_below h (by omega) b) (by omega)

theorem Memory.ofBytes_below (bs : List Byte) : ∀ c ∈ (Memory.ofBytes bs).cells, c.1 < bs.length :=
  Memory.writeBytes_below bs (by simp [Memory.empty]) (by omega)

/-- Two spaces in canonical form that read alike are equal: the form is canonical. -/
theorem cells_ext {cs ds : List Host.Cell} (hc : cellsCanonical cs = true) (hd : cellsCanonical ds = true)
    (h : ∀ a, readCells cs a = readCells ds a) : cs = ds := by
  induction cs generalizing ds with
  | nil =>
    cases ds with
    | nil => rfl
    | cons e ds =>
      have := h e.1
      have hne := ((cellsCanonical_iff _).1 hd).2 e (List.mem_cons_self ..)
      obtain ⟨k, u⟩ := e
      simp [readCells] at this hne
      exact absurd this.symm hne
  | cons c cs ih =>
    obtain ⟨k, u⟩ := c
    have hcn := ((cellsCanonical_iff _).1 hc).2 (k, u) (List.mem_cons_self ..)
    have hcp := (List.pairwise_cons.1 ((cellsCanonical_iff _).1 hc).1).1
    cases ds with
    | nil =>
      have := h k
      simp [readCells] at this hcn
      exact absurd this hcn
    | cons e ds =>
      obtain ⟨l, w⟩ := e
      have hdn := ((cellsCanonical_iff _).1 hd).2 (l, w) (List.mem_cons_self ..)
      have hdp := (List.pairwise_cons.1 ((cellsCanonical_iff _).1 hd).1).1
      have hkl : k = l := by
        rcases Nat.lt_trichotomy k l with hlt | heq | hlt
        · have h1 := h k
          rw [readCells_of_below (cs := (l, w) :: ds)] at h1
          · simp [readCells] at h1; exact absurd h1 hcn
          · intro c hc
            rcases List.mem_cons.1 hc with rfl | hc
            · exact hlt
            · exact Nat.lt_trans hlt (hdp c hc)
        · exact heq
        · have h1 := h l
          rw [readCells_of_below (cs := (k, u) :: cs)] at h1
          · simp [readCells] at h1; exact absurd h1.symm hdn
          · intro c hc
            rcases List.mem_cons.1 hc with rfl | hc
            · exact hlt
            · exact Nat.lt_trans hlt (hcp c hc)
      subst hkl
      have huw : u = w := by simpa [readCells] using h k
      subst huw
      congr 1
      refine ih (cellsCanonical_tail hc) (cellsCanonical_tail hd) fun a => ?_
      by_cases ha : a = k
      · subst ha
        rw [readCells_of_below hcp, readCells_of_below hdp]
      · simpa [readCells, ha] using h a

theorem Memory.ext_of_read {m n : Memory} (hm : m.wf = true) (hn : n.wf = true)
    (h : ∀ a, m.read a = n.read a) : m = n := by
  obtain ⟨cs⟩ := m
  obtain ⟨ds⟩ := n
  exact congrArg Memory.mk (cells_ext hm hn h)

end Sys2Proof.Machine
end

