-- ==== Sys2Proof/Laws/PerInstr.lean ====
section
/-! SUPPORT. Facts about every instruction as syntax, one lemma per constructor. -/

namespace Sys2Proof.Laws

/-- The command word of an instruction selects the row of spec/30_encoding.md R72 that bears its name. -/
def EncodingSelectsRow.Statement (i : Instr) : Prop :=
  ∃ r ∈ opcodeRows, r.mnemonic = i.mnemonic ∧ r.selects (encode i) = true

/-- The fields MODEL_ID and ENG lie outside the mask of an append or verify row. -/
theorem crcWord_masked_packet (p : Word) (id : Byte) (eng : Engine) (h : p &&& 0xFFFF007F = p) :
    crcWord p id eng &&& 0xFFFF007F = p := by
  have hid : ∀ id : Byte, (id.setWidth 32 <<< 8 : Word) &&& 0xFFFF007F = 0 := by decide +kernel
  have heng : (engBit eng <<< 7 : Word) &&& 0xFFFF007F = 0 := by cases eng <;> decide
  have hor : ∀ a b c : Word, (a ||| b) &&& c = (a &&& c) ||| (b &&& c) := by
    intro a b c
    ext i
    simp [Bool.and_or_distrib_right]
  rw [crcWord, hor, hor, h, hid, heng]
  simp

/-- The field MODEL_ID lies outside the mask of the other CRC rows. -/
theorem crcWord_masked (p : Word) (id : Byte) (h : p &&& 0xFFFF00FF = p) :
    crcWord p id .bitSerial &&& 0xFFFF00FF = p := by
  have hid : ∀ id : Byte, (id.setWidth 32 <<< 8 : Word) &&& 0xFFFF00FF = 0 := by decide +kernel
  have hor : ∀ a b c : Word, (a ||| b) &&& c = (a &&& c) ||| (b &&& c) := by
    intro a b c
    ext i
    simp [Bool.and_or_distrib_right]
  rw [crcWord, hor, hor, h, hid]
  simp [engBit]

theorem EncodingSelectsRow.crc8Compute (id : Byte) : Statement (.crc8Compute id) :=
  ⟨⟨"crc8_compute", 0x00000001, 0xFFFF00FF⟩, by simp [opcodeRows], rfl, by
    simp only [OpcodeRow.selects, encode, crcWord_masked 0x00000001 id (by decide), beq_self_eq_true]⟩

theorem EncodingSelectsRow.crc16Compute (id : Byte) : Statement (.crc16Compute id) :=
  ⟨⟨"crc16_compute", 0x00000011, 0xFFFF00FF⟩, by simp [opcodeRows], rfl, by
    simp only [OpcodeRow.selects, encode, crcWord_masked 0x00000011 id (by decide), beq_self_eq_true]⟩

theorem EncodingSelectsRow.crc32Compute (id : Byte) : Statement (.crc32Compute id) :=
  ⟨⟨"crc32_compute", 0x00000021, 0xFFFF00FF⟩, by simp [opcodeRows], rfl, by
    simp only [OpcodeRow.selects, encode, crcWord_masked 0x00000021 id (by decide), beq_self_eq_true]⟩

theorem EncodingSelectsRow.crc8ComputeMirror (id : Byte) : Statement (.crc8ComputeMirror id) :=
  ⟨⟨"crc8_compute_mirror", 0x00000041, 0xFFFF00FF⟩, by simp [opcodeRows], rfl, by
    simp only [OpcodeRow.selects, encode, crcWord_masked 0x00000041 id (by decide), beq_self_eq_true]⟩

theorem EncodingSelectsRow.crc16ComputeMirror (id : Byte) : Statement (.crc16ComputeMirror id) :=
  ⟨⟨"crc16_compute_mirror", 0x00000051, 0xFFFF00FF⟩, by simp [opcodeRows], rfl, by
    simp only [OpcodeRow.selects, encode, crcWord_masked 0x00000051 id (by decide), beq_self_eq_true]⟩

theorem EncodingSelectsRow.crc32ComputeMirror (id : Byte) : Statement (.crc32ComputeMirror id) :=
  ⟨⟨"crc32_compute_mirror", 0x00000061, 0xFFFF00FF⟩, by simp [opcodeRows], rfl, by
    simp only [OpcodeRow.selects, encode, crcWord_masked 0x00000061 id (by decide), beq_self_eq_true]⟩

theorem EncodingSelectsRow.crc8ComputeTable (id : Byte) : Statement (.crc8ComputeTable id) :=
  ⟨⟨"crc8_compute_table", 0x00000002, 0xFFFF00FF⟩, by simp [opcodeRows], rfl, by
    simp only [OpcodeRow.selects, encode, crcWord_masked 0x00000002 id (by decide), beq_self_eq_true]⟩

theorem EncodingSelectsRow.crc16ComputeTable (id : Byte) : Statement (.crc16ComputeTable id) :=
  ⟨⟨"crc16_compute_table", 0x00000012, 0xFFFF00FF⟩, by simp [opcodeRows], rfl, by
    simp only [OpcodeRow.selects, encode, crcWord_masked 0x00000012 id (by decide), beq_self_eq_true]⟩

theorem EncodingSelectsRow.crc32ComputeTable (id : Byte) : Statement (.crc32ComputeTable id) :=
  ⟨⟨"crc32_compute_table", 0x00000022, 0xFFFF00FF⟩, by simp [opcodeRows], rfl, by
    simp only [OpcodeRow.selects, encode, crcWord_masked 0x00000022 id (by decide), beq_self_eq_true]⟩

theorem EncodingSelectsRow.crc8GenerateTable (id : Byte) : Statement (.crc8GenerateTable id) :=
  ⟨⟨"crc8_generate_table", 0x00000003, 0xFFFF00FF⟩, by simp [opcodeRows], rfl, by
    simp only [OpcodeRow.selects, encode, crcWord_masked 0x00000003 id (by decide), beq_self_eq_true]⟩

theorem EncodingSelectsRow.crc16GenerateTable (id : Byte) : Statement (.crc16GenerateTable id) :=
  ⟨⟨"crc16_generate_table", 0x00000013, 0xFFFF00FF⟩, by simp [opcodeRows], rfl, by
    simp only [OpcodeRow.selects, encode, crcWord_masked 0x00000013 id (by decide), beq_self_eq_true]⟩

theorem EncodingSelectsRow.crc32GenerateTable (id : Byte) : Statement (.crc32GenerateTable id) :=
  ⟨⟨"crc32_generate_table", 0x00000023, 0xFFFF00FF⟩, by simp [opcodeRows], rfl, by
    simp only [OpcodeRow.selects, encode, crcWord_masked 0x00000023 id (by decide), beq_self_eq_true]⟩

theorem EncodingSelectsRow.crc8Append (id : Byte) (eng : Engine) : Statement (.crc8Append id eng) :=
  ⟨⟨"crc8_append", 0x00000004, 0xFFFF007F⟩, by simp [opcodeRows], rfl, by
    simp only [OpcodeRow.selects, encode, crcWord_masked_packet 0x00000004 id eng (by decide), beq_self_eq_true]⟩

theorem EncodingSelectsRow.crc16Append (id : Byte) (eng : Engine) : Statement (.crc16Append id eng) :=
  ⟨⟨"crc16_append", 0x00000014, 0xFFFF007F⟩, by simp [opcodeRows], rfl, by
    simp only [OpcodeRow.selects, encode, crcWord_masked_packet 0x00000014 id eng (by decide), beq_self_eq_true]⟩

theorem EncodingSelectsRow.crc32Append (id : Byte) (eng : Engine) : Statement (.crc32Append id eng) :=
  ⟨⟨"crc32_append", 0x00000024, 0xFFFF007F⟩, by simp [opcodeRows], rfl, by
    simp only [OpcodeRow.selects, encode, crcWord_masked_packet 0x00000024 id eng (by decide), beq_self_eq_true]⟩

theorem EncodingSelectsRow.crc8Verify (id : Byte) (eng : Engine) : Statement (.crc8Verify id eng) :=
  ⟨⟨"crc8_verify", 0x00000005, 0xFFFF007F⟩, by simp [opcodeRows], rfl, by
    simp only [OpcodeRow.selects, encode, crcWord_masked_packet 0x00000005 id eng (by decide), beq_self_eq_true]⟩

theorem EncodingSelectsRow.crc16Verify (id : Byte) (eng : Engine) : Statement (.crc16Verify id eng) :=
  ⟨⟨"crc16_verify", 0x00000015, 0xFFFF007F⟩, by simp [opcodeRows], rfl, by
    simp only [OpcodeRow.selects, encode, crcWord_masked_packet 0x00000015 id eng (by decide), beq_self_eq_true]⟩

theorem EncodingSelectsRow.crc32Verify (id : Byte) (eng : Engine) : Statement (.crc32Verify id eng) :=
  ⟨⟨"crc32_verify", 0x00000025, 0xFFFF007F⟩, by simp [opcodeRows], rfl, by
    simp only [OpcodeRow.selects, encode, crcWord_masked_packet 0x00000025 id eng (by decide), beq_self_eq_true]⟩

theorem EncodingSelectsRow.md5Init : Statement .md5Init :=
  ⟨⟨"md5_init", 0x00000008, 0xFFFFFFFF⟩, by decide, rfl, by decide⟩

theorem EncodingSelectsRow.md5Update : Statement .md5Update :=
  ⟨⟨"md5_update", 0x00000009, 0xFFFFFFFF⟩, by decide, rfl, by decide⟩

theorem EncodingSelectsRow.md5Final : Statement .md5Final :=
  ⟨⟨"md5_final", 0x0000000A, 0xFFFFFFFF⟩, by decide, rfl, by decide⟩

end Sys2Proof.Laws
end

