-- ==== Sys2Proof/Tests/Slice0.lean ====
section
/-! SUPPORT. Tests of the model and witnesses for the hypotheses of the statements. Every expected value is from
spec/95_test_vectors.md or from a worked example of the rule named. -/

namespace Sys2Proof.Tests

open Sys2Proof Sys2Proof.Machine

-- The tests are elaborated one after another: many kernel evaluations at once would need too many threads.
set_option Elab.async false

/-! ## Helpers -/

/-- The ASCII bytes of "123456789". -/
def digits : List Byte := [0x31, 0x32, 0x33, 0x34, 0x35, 0x36, 0x37, 0x38, 0x39]

/-- The state after one command word is presented in `s`. -/
def present (s : State) (w : Word) : Option State :=
  match step { s with host := [.command w] } with
  | .next t => some t
  | .fault _ => none
  | .refused _ => none

/-- STATUS and RESULT after one command. -/
def statusResult (s : State) (w : Word) : Option (Word × Word) :=
  (present s w).map fun t => (t.status, t.result)

/-- STATUS, RESULT and the bytes of the packet buffer after one command. -/
def packetAfter (s : State) (w : Word) : Option (Word × Word × List Byte) :=
  (present s w).map fun t => (t.status, t.result, t.buf.readBytes 0 t.bufLen)

/-- Some entries of TBLOUT after one command on the reset state. -/
def tableAfter (w : Word) (is : List (Fin 256)) : Option (List Word) :=
  (present State.reset w).map fun t => is.map fun i => t.tblout[i]

/-- Reset, then the data of one command. -/
def withData (d : List Byte) : State := State.reset.withData d

/-- Reset, then a packet buffer and a total length. -/
def withPacket (bytes : List Byte) (len : Nat) : State := (State.reset.handBuffer bytes).writeLen len

/-- The ROM of spec/95_test_vectors.md section 2.7: mixed models and seeds that are no palindromes. -/
def otherRom : ParamRom :=
  { crc8 := [{ poly := 0x07, init := 0x00, xorout := 0x00, refin := true, refout := false }]
    crc16 :=
      [{ poly := 0x1021, init := 0xFFFF, xorout := 0x0000, refin := true, refout := false },
       { poly := 0x1021, init := 0xFFFF, xorout := 0x0000, refin := false, refout := true },
       { poly := 0x1021, init := 0x1D0F, xorout := 0x0000, refin := true, refout := true },
       { poly := 0x1021, init := 0x1D0F, xorout := 0x0000, refin := false, refout := false }]
    crc32 :=
      [{ poly := 0x04C11DB7, init := 0xFFFFFFFF, xorout := 0xFFFFFFFF, refin := false, refout := true }] }

/-- The reset state of a hardware with that ROM. -/
def otherReset : State := { State.reset with rom := otherRom }

/-- A context in ACTIVE with `bytes` buffered and counted, started by `md5_init`. -/
def hashing (bytes : List Byte) : State :=
  { State.reset with
    md5 :=
      { State.reset.md5.init with
        buf := tabulate 64 fun k => bytes.getD k.val 0
        bufLen := BitVec.ofNat 6 bytes.length
        nbits := BitVec.ofNat 64 (8 * bytes.length) } }

/-- A context in FINALIZED. -/
def hashed : State := { hashing [] with md5 := { (hashing []).md5 with st := .finalized } }

/-- A state in which a command has faulted. -/
def stuck : State := raise .errModel State.reset

/-! ## Well-formedness: an ill-formed term for each check -/

theorem test_wellFormed_crc8 :
    (Instr.crc8Compute 3).wellFormed = true ∧ (Instr.crc8Compute 4).wellFormed = false := by decide

theorem test_wellFormed_crc16 :
    (Instr.crc16Append 8 .table).wellFormed = true ∧ (Instr.crc16Append 9 .table).wellFormed = false := by decide

theorem test_wellFormed_crc32 :
    (Instr.crc32GenerateTable 1).wellFormed = true ∧ (Instr.crc32GenerateTable 2).wellFormed = false := by decide

/-! ## Decoding: words written out field by field, RSV MODEL_ID ENG FORM WSEL OP (spec/30_encoding.md R61) -/

theorem test_decode_compute :
    decode 0b00000000000000000000001100000001 = .ok (.crc8Compute 3) ∧
    decode 0b00000000000000000000001100010001 = .ok (.crc16Compute 3) ∧
    decode 0b00000000000000000000000100100001 = .ok (.crc32Compute 1) := by decide

theorem test_decode_compute_mirror :
    decode 0b00000000000000000000001001000001 = .ok (.crc8ComputeMirror 2) ∧
    decode 0b00000000000000000000001101010001 = .ok (.crc16ComputeMirror 3) ∧
    decode 0b00000000000000000000000001100001 = .ok (.crc32ComputeMirror 0) := by decide

theorem test_decode_compute_table :
    decode 0b00000000000000001111111100000010 = .ok (.crc8ComputeTable 0xFF) ∧
    decode 0b00000000000000000000100000010010 = .ok (.crc16ComputeTable 8) ∧
    decode 0b00000000000000000000000000100010 = .ok (.crc32ComputeTable 0) := by decide

theorem test_decode_generate_table :
    decode 0b00000000000000000000000100000011 = .ok (.crc8GenerateTable 1) ∧
    decode 0b00000000000000000000001100010011 = .ok (.crc16GenerateTable 3) ∧
    decode 0b00000000000000000000000100100011 = .ok (.crc32GenerateTable 1) := by decide

theorem test_decode_append :
    decode 0b00000000000000000000000100000100 = .ok (.crc8Append 1 .bitSerial) ∧
    decode 0b00000000000000000000010110010100 = .ok (.crc16Append 5 .table) ∧
    decode 0b00000000000000000000000110100100 = .ok (.crc32Append 1 .table) := by decide

theorem test_decode_verify :
    decode 0b00000000000000000000000110000101 = .ok (.crc8Verify 1 .table) ∧
    decode 0b00000000000000000000001100010101 = .ok (.crc16Verify 3 .bitSerial) ∧
    decode 0b00000000000000000000000000100101 = .ok (.crc32Verify 0 .bitSerial) := by decide

theorem test_decode_md5 :
    decode 0b00000000000000000000000000001000 = .ok .md5Init ∧
    decode 0b00000000000000000000000000001001 = .ok .md5Update ∧
    decode 0b00000000000000000000000000001010 = .ok .md5Final := by decide

/-- Section 2.6, one word for each reason. -/
theorem test_decode_rejects :
    decode 0x00010001 = .error .reservedBits ∧ decode 0x0000000F = .error .reservedOp ∧
    decode 0x00000031 = .error .reservedWidth ∧ decode 0x00000091 = .error .nonzeroField ∧
    decode 0x00000053 = .error .nonzeroField ∧ decode 0x00000054 = .error .nonzeroField ∧
    decode 0x00000109 = .error .nonzeroField := by decide

theorem test_decodeTableWord :
    decodeTableWord 32 0x594 = some (.crc16Append 5 .table) ∧ decodeTableWord 32 0x10001 = none := by decide

/-- The word of R72's example, as the encoder writes it. -/
theorem test_encode : encode (.crc16Append 5 .table) = 0x00000594 := by decide

/-- The placed word is the very next command of the reset state. -/
theorem test_withFetchWord :
    (match step ((withData digits).withFetchWord 32 0x311) with
      | .next t => t.result == 0x4B37
      | .fault _ => false
      | .refused _ => false) = true := by decide +kernel

/-! ## The commands, one step each -/

theorem test_crc8_compute :
    statusResult (withData digits) 0x101 = some (0, 0xA1) ∧
    statusResult (withData [0x31]) 0x201 = some (0, 0x7A) := by decide +kernel

theorem test_crc16_compute :
    statusResult (withData digits) 0x311 = some (0, 0x4B37) ∧
    statusResult (withData [0x31]) 0x711 = some (0, 0x2672) := by decide +kernel

theorem test_crc32_compute :
    statusResult (withData digits) 0x021 = some (0, 0xCBF43926) ∧
    statusResult (withData [0x00]) 0x121 = some (0, 0x4E08BFB4) := by decide +kernel

theorem test_crc8_compute_mirror :
    statusResult (withData [0x31]) 0x241 = some (0, 0x7A) ∧
    statusResult (withData [0x31]) 0x141 = some (0, 0xC2) := by decide +kernel

theorem test_crc16_compute_mirror :
    statusResult (withData [0x01]) 0x351 = some (0, 0x807E) ∧
    statusResult (withData [0x31]) 0x751 = some (0, 0x2672) := by decide +kernel

theorem test_crc32_compute_mirror :
    statusResult (withData [0x00]) 0x061 = some (0, 0xD202EF8D) ∧
    statusResult (withData [0x00]) 0x161 = some (0, 0x4E08BFB4) := by decide +kernel

theorem test_crc8_compute_table :
    statusResult (withData [0x31, 0x32]) 0x102 = some (0, 0x27) ∧
    statusResult (withData [0x31]) 0x202 = some (0, 0x7A) := by decide +kernel

theorem test_crc16_compute_table :
    statusResult (withData [0x01]) 0x312 = some (0, 0x807E) ∧
    statusResult (withData [0x31]) 0x712 = some (0, 0x2672) := by decide +kernel

/-- R115: the register before the final XOR is 0x2DFD1072. -/
theorem test_crc32_compute_table :
    (present (withData [0x00]) 0x022).map (fun t => (t.crcReg, t.result)) = some (0x2DFD1072, 0xD202EF8D) ∧
    statusResult (withData [0x00]) 0x122 = some (0, 0x4E08BFB4) := by decide +kernel

theorem test_crc8_generate_table :
    tableAfter 0x003 [0, 1, 2, 3, 0xFF] = some [0x00, 0x07, 0x0E, 0x09, 0xF3] ∧
    tableAfter 0x303 [0, 1, 2, 3, 0x80] = some [0x00, 0x5E, 0xBC, 0xE2, 0x8C] := by decide +kernel

theorem test_crc16_generate_table :
    tableAfter 0x313 [0, 1, 2, 3, 0xFF] = some [0x0000, 0xC0C1, 0xC181, 0x0140, 0x4040] ∧
    tableAfter 0x713 [0, 1, 2, 3, 0xFF] = some [0x0000, 0x1021, 0x2042, 0x3063, 0x1EF0] := by decide +kernel

theorem test_crc32_generate_table :
    tableAfter 0x023 [1, 0x80, 0xFF] = some [0x77073096, 0xEDB88320, 0x2D02EF8D] ∧
    tableAfter 0x123 [1, 3, 0xFF] = some [0x04C11DB7, 0x0D4326D9, 0xB1F740B4] := by decide +kernel

theorem test_crc8_append :
    packetAfter (withPacket [0x31, 0x32, 0x00] 3) 0x104 = some (0, 0x27, [0x31, 0x32, 0x27]) := by
  decide +kernel

/-- The bytes at LEN and above stay (R132). -/
theorem test_crc16_append :
    packetAfter (withPacket [0x01, 0x03, 0x00, 0xAA, 0xBB, 0x0A, 0xAA, 0xBB, 0xCC, 0xDD] 5) 0x314 =
      some (0, 0xF020, [0x01, 0x03, 0x00, 0x20, 0xF0, 0x0A, 0xAA, 0xBB, 0xCC, 0xDD]) := by
  decide +kernel

theorem test_crc32_append :
    packetAfter (withPacket [0x01, 0xEE, 0xEE, 0xEE, 0xEE] 5) 0x024 =
      some (0, 0xA505DF1B, [0x01, 0x1B, 0xDF, 0x05, 0xA5]) := by
  decide +kernel

theorem test_crc8_verify :
    packetAfter (withPacket [0x31, 0x32, 0x27] 3) 0x105 = some (0x20, 1, [0x31, 0x32, 0x27]) ∧
    packetAfter (withPacket [0x30, 0x32, 0x27] 3) 0x105 = some (0, 0, [0x30, 0x32, 0x27]) := by decide +kernel

/-- The table engine accepts it; with the trailer in the wrong byte order it is refused (R135). -/
theorem test_crc16_verify :
    statusResult (withPacket [0x01, 0x03, 0x00, 0x00, 0x00, 0x0A, 0xC5, 0xCD] 8) 0x395 = some (0x20, 1) ∧
    statusResult (withPacket [0x01, 0x03, 0x00, 0x00, 0x00, 0x0A, 0xCD, 0xC5] 8) 0x315 = some (0, 0) := by
  decide +kernel

theorem test_crc32_verify :
    statusResult (withPacket (digits ++ [0x26, 0x39, 0xF4, 0xCB]) 13) 0x025 = some (0x20, 1) := by decide +kernel

theorem test_md5_init :
    (present State.reset 0x008).map (fun t => (t.status, t.md5.h, t.md5.nbits, t.md5.bufLen)) =
      some (0x40, #v[0x67452301, 0xEFCDAB89, 0x98BADCFE, 0x10325476], 0, 0) := by decide +kernel

/-- R149's example: the three bytes are buffered and counted, H is as `md5_init` left it. -/
theorem test_md5_update :
    (present ((hashing []).withData [0x61, 0x62, 0x63]) 0x009).map
        (fun t => (t.status, [t.md5.buf[0], t.md5.buf[1], t.md5.buf[2]], t.md5.nbits, t.md5.h == md5InitialHash)) =
      some (0x40, [0x61, 0x62, 0x63], 24, true) := by decide +kernel

/-- The digest of "abc" (D0's own vector, S3). -/
theorem test_md5_final :
    (present (hashing [0x61, 0x62, 0x63]) 0x00A).map (fun t => (t.status, t.digest)) =
      some (0x80, #v[0x90, 0x01, 0x50, 0x98, 0x3C, 0xD2, 0x4F, 0xB0, 0xD6, 0x96, 0x3F, 0x7D, 0x28, 0xE1, 0x7F,
        0x72]) := by decide +kernel

/-- Section 2.5.6: 56 bytes 00 to 37 take two blocks. -/
theorem test_md5_final_two_blocks :
    (present (hashing ((List.range 56).map (BitVec.ofNat 8))) 0x00A).map (fun t => t.md5.h) =
      some #v[0xACD1FD51, 0x5D4072DA, 0xFC03FAFD, 0xD79658B8] := by decide +kernel

/-- Section 2.5.3: the block of 64 zero bytes. -/
theorem test_md5_block :
    md5Block md5InitialHash (Vector.replicate 64 0) = #v[0x031F1DAC, 0x6EA58ED0, 0x1FAB67B7, 0x74317791] := by
  decide +kernel

/-! ## The engines' steps -/

/-- Section 2.2.1 and spec/40_bit_reflection.md R80, R84. -/
theorem test_shifts :
    fwdBit (0x07 : BitVec 8) 0xC4 = 0x8F ∧ fwdBit (0x8005 : BitVec 16) 0xFFFF = 0x7FFB ∧
    mirBit (0xA001 : BitVec 16) 0x7FFF = 0x9FFE ∧ reflect (0x04C11DB7 : BitVec 32) = 0xEDB88320 := by
  decide +kernel

/-- Section 2.5.1. -/
theorem test_mixing :
    mixF 0xEFCDAB89 0x98BADCFE 0x10325476 = 0x98BADCFE ∧ mixG 0xEFCDAB89 0x98BADCFE 0x10325476 = 0x88888888 ∧
    mixH 0xEFCDAB89 0x98BADCFE 0x10325476 = 0x67452301 ∧ mixI 0xEFCDAB89 0x98BADCFE 0x10325476 = 0x77777777 ∧
    rotl32 0x12345678 7 = 0x1A2B3C09 := by decide

/-! ## Faults (section 2.6 and 2.7) -/

theorem test_illegal_command : statusResult State.reset 0x00010001 = some (0x0B, 0) := by decide +kernel

/-- MODEL_ID 9 and LEN 0 at once: the model is inspected first (R181). -/
theorem test_unknown_model : statusResult State.reset 0x00000912 = some (0x03, 0) := by decide +kernel

theorem test_empty_data : statusResult State.reset 0x00000311 = some (0x05, 0) := by decide +kernel

theorem test_packet_too_long :
    packetAfter (withPacket [0x01, 0x03, 0x00, 0x00, 0x00, 0x0A, 0xEE, 0xEE] 9) 0x314 =
      some (0x05, 0, [0x01, 0x03, 0x00, 0x00, 0x00, 0x0A, 0xEE, 0xEE]) := by decide +kernel

theorem test_update_without_init : statusResult (withData [0x61]) 0x009 = some (0x07, 0) := by decide +kernel

/-- A mixed model with LEN = 0 in the mirror form: ERR_UNSUPPORTED comes first. -/
theorem test_mixed_model : statusResult otherReset 0x151 = some (0x09, 0) := by decide +kernel

/-- A seed that is no palindrome tells the forward form from the mirror form (`90_conflicts.md` C5). -/
theorem test_forward_and_mirror_differ :
    statusResult (otherReset.withData digits) 0x211 = some (0, 0xD1A2) ∧
    statusResult (otherReset.withData digits) 0x251 = some (0, 0x5604) := by decide +kernel

/-- P4 step 2: a legal command after a fault is ignored. -/
theorem test_stuck : statusResult (stuck.withData digits) 0x311 = some (0x03, 0) := by decide +kernel

/-- The forward form of shipped models on "123456789" (section 3): the rows no test above fixes. -/
theorem test_check_values :
    [0x011, 0x111, 0x211, 0x411, 0x511, 0x611, 0x811].map (statusResult (withData digits)) =
      [0xBB3D, 0x44C2, 0xB4C8, 0x2189, 0x29B1, 0x906E, 0xEA82].map fun v => some (0, v) := by decide +kernel

/-- LEN is a LEN_W-bit register (R68): of a number it keeps the low LEN_W bits. -/
theorem test_length_width :
    (State.reset.writeLen (2 ^ 32 + 9)).len = 9 ∧ ({ State.reset with lenW := 16 }.writeLen 0x1FFFF).len = 0xFFFF := by
  decide +kernel

/-- After reset the memories are in canonical form. -/
theorem test_reset_memory : State.reset.data.wf = true ∧ State.reset.buf.wf = true := by decide

/-! ## Witnesses: a state and operands that meet the hypotheses of each statement, at the ends of each range -/

theorem witness_DecodedWordEncodesBack : decode 0x00000594 = .ok (.crc16Append 5 .table) := by decide

/-- A selected row; the first and the last word that select none; a model and both values of ENG. -/
theorem witness_WordSelectsARowIffItDecodesToIt :
    (⟨"md5_final", 0x0000000A, 0xFFFFFFFF⟩ ∈ opcodeRows ∧
      OpcodeRow.selects ⟨"md5_final", 0x0000000A, 0xFFFFFFFF⟩ 0x0000000A = true) ∧
    (∀ r ∈ opcodeRows, r.selects 0x00000000 = false) ∧ (∀ r ∈ opcodeRows, r.selects 0xFFFFFFFF = false) ∧
    (decode 0x0000FF01 = .ok (.crc8Compute 0xFF) ∧ (Instr.crc8Compute 0xFF).model = some (.w8, 0xFF)) ∧
    decode 0x00000594 = .ok (.append .w16 5 .table) ∧ decode 0x00000514 = .ok (.append .w16 5 .bitSerial) ∧
    decode 0x000000A5 = .ok (.verify .w32 0 .table) ∧ decode 0x00000025 = .ok (.verify .w32 0 .bitSerial) := by
  decide

theorem witness_IllegalWordsAreExactlyTheListedOnes :
    (State.reset.present 0x00000006).fault = false ∧ ∀ i, decode (State.reset.present 0x00000006).cmd ≠ .ok i := by
  refine ⟨rfl, fun i h => ?_⟩
  have hr : decode (State.reset.present 0x00000006).cmd = .error .reservedOp := by decide
  rw [hr] at h
  cases h

/-- A word that decodes and one that does not, this one without and with a fault; each other action first in the
list; a byte of the buffer at its last offset and just above it. -/
theorem witness_StepRunsTheDecodedCommand :
    (∀ i, decode 0x00010001 ≠ .ok i) ∧ State.reset.fault = false ∧ stuck.fault = true ∧
    { State.reset with host := [.command 0x00010001] }.host = .command 0x00010001 :: [] ∧
    { stuck with host := [.command 0x00010001] }.host = .command 0x00010001 :: [] ∧
    decode 0x00000311 = .ok (.crc16Compute 3) ∧
    { State.reset with host := [.command 0x00000311] }.host = .command 0x00000311 :: [] ∧
    { State.reset with host := [.writeLen 9] }.host = .writeLen 9 :: [] ∧
    { State.reset with host := [.supplyData digits] }.host = .supplyData digits :: [] ∧
    { State.reset with host := [.handBuffer digits] }.host = .handBuffer digits :: [] ∧
    { withPacket digits 9 with host := [.pokeBuffer 8 0] }.host = .pokeBuffer 8 0 :: [] ∧
    8 < (withPacket digits 9).bufLen ∧ (withPacket digits 9).bufLen ≤ 9 ∧ State.reset.host = [] := by
  refine ⟨fun i h => ?_, by decide +kernel⟩
  have hr : decode 0x00010001 = .error .reservedBits := by decide
  rw [hr] at h
  cases h

/-- An instruction that faults and a word that does not decode. -/
theorem witness_FaultEntryWritesOnlyTheFaultFields :
    State.reset.fault = false ∧ (raise .errModel State.reset).fault = true ∧
    exec (.crc16Compute 9) State.reset = .next (raise .errModel State.reset) ∧
    (State.reset.present 0x00000006).fault = false ∧
    runCommand (State.reset.present 0x00000006) =
      .next (raise .errIllegalCmd (State.reset.present 0x00000006)) := ⟨rfl, rfl, rfl, rfl, rfl⟩

theorem witness_StuckEngineIgnoresEveryCommand : stuck.fault = true := rfl

/-- The first MODEL_ID above each width's models, and an MD5 command that faults with another code. -/
theorem witness_UnknownModelRaisesErrModel :
    ((Instr.crc8Verify 4 .table).model = some (.w8, 4) ∧ (romModels State.reset.rom .w8).length ≤ (4 : Byte).toNat ∧
      3 < (4 : Byte).toNat) ∧
    ((Instr.crc16Compute 9).model = some (.w16, 9) ∧ (romModels State.reset.rom .w16).length ≤ (9 : Byte).toNat ∧
      8 < (9 : Byte).toNat) ∧
    ((Instr.crc32GenerateTable 2).model = some (.w32, 2) ∧
      (romModels State.reset.rom .w32).length ≤ (2 : Byte).toNat ∧ 1 < (2 : Byte).toNat) ∧
    State.reset.fault = false ∧ State.reset.rom = shippedRom ∧
    (Instr.md5Update.model = none ∧ exec .md5Update State.reset = .next (raise .errProtocol State.reset) ∧
      (raise .errProtocol State.reset).fault = true) := by
  refine ⟨by decide, by decide, by decide, rfl, rfl, rfl, rfl, rfl⟩

theorem witness_MixedModelRaisesErrUnsupported :
    otherReset.fault = false ∧
    romLookup otherReset.rom .w16 0 =
      some { poly := 0x1021, init := 0xFFFF, xorout := 0x0000, refin := true, refout := false } ∧
    romLookup shippedRom .w16 8 =
      some { poly := 0x3D65, init := 0x0000, xorout := 0xFFFF, refin := true, refout := true } := by decide

/-- LEN = 0; LEN equal to the trailer size and one above BUF_LEN; a fault of a command that has no length
check. -/
theorem witness_BadLengthRaisesErrBuffer :
    (exec (.generateTable .w8 4) State.reset = .next (raise .errModel State.reset) ∧
      exec .md5Update State.reset = .next (raise .errProtocol State.reset)) ∧
    State.reset.fault = false ∧ State.reset.len = 0 ∧
    romLookup State.reset.rom .w32 1 =
      some { poly := 0x04C11DB7, init := 0xFFFFFFFF, xorout := 0x00000000, refin := false, refout := false } ∧
    (withPacket digits 4).len ≤ Width.w32.bits / 8 ∧
    (withPacket digits 10).bufLen < (withPacket digits 10).len :=
  ⟨⟨rfl, rfl⟩, rfl, rfl, rfl, by decide +kernel, by decide +kernel⟩

/-- A fault of each kind. -/
theorem witness_EveryFaultHasItsCause :
    State.reset.fault = false ∧ otherReset.fault = false ∧
    exec (.crc32ComputeTable 2) State.reset = .next (raise .errModel State.reset) ∧
    exec (.crc16ComputeMirror 0) otherReset = .next (raise .errUnsupported otherReset) ∧
    exec (.crc16Append 0 .table) otherReset = .next (raise .errUnsupported otherReset) ∧
    exec (.crc8Compute 0) State.reset = .next (raise .errBuffer State.reset) ∧
    exec (.crc8Verify 0 .bitSerial) State.reset = .next (raise .errBuffer State.reset) ∧
    exec .md5Final State.reset = .next (raise .errProtocol State.reset) := by
  refine ⟨rfl, rfl, rfl, rfl, rfl, rfl, rfl, rfl⟩

/-- Another action and `rst`, each taken in a faulted state. -/
theorem witness_OnlyResetLeavesAFault :
    stuck.fault = true ∧ (HostAction.writeLen 9 ≠ .rst ∧
      step { stuck with host := [.writeLen 9] } = .next { stuck with len := 9 }) ∧
    { stuck with host := [.rst] }.host = .rst :: [] := by
  refine ⟨rfl, ⟨by decide, rfl⟩, rfl⟩

/-- The first and the last bit at each width. -/
theorem witness_ReflectionReversesTheBits :
    0 < Width.w8.bits ∧ 7 < Width.w8.bits ∧ 15 < Width.w16.bits ∧ 31 < Width.w32.bits := by decide

theorem witness_ForwardShiftBitByBit : 1 ≤ 1 ∧ 1 < Width.w8.bits ∧ 1 ≤ 31 ∧ 31 < Width.w32.bits := by decide

theorem witness_MirrorShiftIsTheForwardShiftReflected : 0 ≤ Width.w8.bits - 2 ∧ 30 ≤ Width.w32.bits - 2 := by decide

/-- A palindromic seed, and equal values of the two forms with a polynomial whose bit 0 is 1. -/
theorem witness_MirrorFormIsTheForwardFormFromTheReflectedSeed :
    let m : CrcModel .w16 := { poly := 0x8005, init := 0xFFFF, xorout := 0x0000, refin := true, refout := true }
    reflect m.init = m.init ∧ m.poly.getLsbD 0 = true ∧ crcMirror m [0x01] = crcForward m [0x01] := by
  decide +kernel

/-- The smallest LEN, 1, on a model of each width, a mixed one among them. -/
theorem witness_ForwardComputeLeavesTheForwardCrc :
    (otherReset.withData [0x31]).fault = false ∧ (otherReset.withData [0x31]).len = 1 ∧
    (romLookup otherReset.rom .w8 0).isSome = true ∧ (romLookup otherReset.rom .w16 3).isSome = true ∧
    (romLookup otherReset.rom .w32 0).isSome = true ∧ (otherReset.withData [0x31]).len ≠ 0 := by decide +kernel

theorem witness_MirrorComputeLeavesTheMirrorCrc :
    (withData [0x31]).fault = false ∧ (withData [0x31]).len ≠ 0 ∧
    romLookup (withData [0x31]).rom .w8 2 =
      some { poly := 0x07, init := 0xFF, xorout := 0x00, refin := true, refout := true } ∧
    romLookup (withData [0x31]).rom .w16 7 =
      some { poly := 0x1021, init := 0x0000, xorout := 0x0000, refin := false, refout := false } ∧
    romLookup (withData [0x31]).rom .w32 1 =
      some { poly := 0x04C11DB7, init := 0xFFFFFFFF, xorout := 0x00000000, refin := false, refout := false } := by
  decide +kernel

/-- A model of each reflection pair. -/
theorem witness_TableEntriesAreRawRemainders :
    ∃ l r : CrcModel .w16, l ∈ shippedCrc16 ∧ r ∈ shippedCrc16 ∧
      (l.refin = l.refout ∧ l.refin = false) ∧ r.refin = r.refout ∧ r.refin = true :=
  ⟨{ poly := 0x1021, init := 0xFFFF, xorout := 0x0000, refin := false, refout := false },
   { poly := 0x8005, init := 0xFFFF, xorout := 0x0000, refin := true, refout := true }, by decide⟩

theorem witness_TableStepIsEightShifts :
    ∃ l r : CrcModel .w8, l ∈ shippedCrc8 ∧ r ∈ shippedCrc8 ∧
      (r.refin = true ∧ r.refout = true) ∧ l.refin = false ∧ l.refout = false :=
  ⟨{ poly := 0x07, init := 0x00, xorout := 0x55, refin := false, refout := false },
   { poly := 0x31, init := 0x00, xorout := 0x00, refin := true, refout := true }, by decide⟩

/-- A seed of each kind for each reflection pair, the polynomial with bit 0 = 1. -/
theorem witness_TableEngineAgreesWithTheBitSerialEngine :
    let m (init : BitVec 16) (refl : Bool) : CrcModel .w16 :=
      { poly := 0x1021, init := init, xorout := 0x0000, refin := refl, refout := refl }
    ((m 0x1D0F false).refin = false ∧ (m 0x1D0F false).refout = false) ∧
    ((m 0xFFFF false).refin = false ∧ reflect (m 0xFFFF false).init = (m 0xFFFF false).init) ∧
    ((m 0xFFFF true).refin = true ∧ (m 0xFFFF true).refout = true ∧
      reflect (m 0xFFFF true).init = (m 0xFFFF true).init) ∧
    ((m 0x1D0F true).refin = true ∧ reflect (m 0x1D0F true).init ≠ (m 0x1D0F true).init ∧
      (m 0x1D0F true).poly.getLsbD 0 = true) := by decide +kernel

/-- The last model of each width. -/
theorem witness_ShippedModelsHaveOneValue :
    (romLookup shippedRom .w8 3).isSome = true ∧ (romLookup shippedRom .w16 8).isSome = true ∧
    (romLookup shippedRom .w32 1).isSome = true := by decide

theorem witness_TableComputeLeavesTheTableCrc :
    (withData [0x00]).fault = false ∧ (withData [0x00]).len ≠ 0 ∧
    romLookup (withData [0x00]).rom .w8 1 =
      some { poly := 0x07, init := 0x00, xorout := 0x55, refin := false, refout := false } ∧
    romLookup (withData [0x00]).rom .w16 3 =
      some { poly := 0x8005, init := 0xFFFF, xorout := 0x0000, refin := true, refout := true } ∧
    romLookup (withData [0x00]).rom .w32 0 =
      some { poly := 0x04C11DB7, init := 0xFFFFFFFF, xorout := 0xFFFFFFFF, refin := true, refout := true } := by
  decide +kernel

theorem witness_GenerateTableCopiesTheTable :
    State.reset.fault = false ∧
    romLookup State.reset.rom .w8 3 =
      some { poly := 0x31, init := 0x00, xorout := 0x00, refin := true, refout := true } ∧
    romLookup State.reset.rom .w16 5 =
      some { poly := 0x1021, init := 0xFFFF, xorout := 0x0000, refin := false, refout := false } ∧
    romLookup State.reset.rom .w32 0 =
      some { poly := 0x04C11DB7, init := 0xFFFFFFFF, xorout := 0xFFFFFFFF, refin := true, refout := true } := by
  decide

/-- A model of each reflection pair, a mixed one among them. -/
theorem witness_PacketEnginesAgree :
    ∃ b n x : CrcModel .w16, (b.refin = b.refout ∧ b.refin = true ∧ b.refout = true) ∧
      (n.refin = false ∧ n.refout = false) ∧ x.refin ≠ x.refout :=
  ⟨{ poly := 0x1021, init := 0x1D0F, xorout := 0x0000, refin := true, refout := true },
   { poly := 0x1021, init := 0x1D0F, xorout := 0x0000, refin := false, refout := false },
   { poly := 0x1021, init := 0xFFFF, xorout := 0x0000, refin := true, refout := false }, by decide⟩

/-- The shortest packet of each width, LEN = BUF_LEN; a model for either ENG. -/
theorem witness_AppendWritesTheTrailerAndNothingElse :
    let s (len : Nat) : State := withPacket (List.replicate len 0xEE) len
    (∀ len ∈ [2, 3, 5], (s len).fault = false ∧ (s len).buf.wf = true ∧ (s len).len ≤ (s len).bufLen) ∧
    (Width.w8.bits / 8 < (s 2).len ∧ Width.w16.bits / 8 < (s 3).len ∧
      Width.w32.bits / 8 < (s 5).len) ∧
    romLookup (s 2).rom .w8 0 =
      some { poly := 0x07, init := 0x00, xorout := 0x00, refin := false, refout := false } ∧
    romLookup (s 3).rom .w16 3 =
      some { poly := 0x8005, init := 0xFFFF, xorout := 0x0000, refin := true, refout := true } ∧
    romLookup (s 5).rom .w32 0 =
      some { poly := 0x04C11DB7, init := 0xFFFFFFFF, xorout := 0xFFFFFFFF, refin := true, refout := true } := by
  decide +kernel

/-- A packet that matches, with a buffer longer than LEN, and a mixed model with ENG = 0. -/
theorem witness_VerifyComparesTheTrailer :
    let s := withPacket [0x31, 0x32, 0x27, 0xEE] 3
    (s.fault = false ∧ Width.w8.bits / 8 < s.len ∧ s.len ≤ s.bufLen ∧
      romLookup s.rom .w8 1 =
        some { poly := 0x07, init := 0x00, xorout := 0x55, refin := false, refout := false }) ∧
    romLookup otherRom .w8 0 =
      some { poly := 0x07, init := 0x00, xorout := 0x00, refin := true, refout := false } ∧
    (Engine.bitSerial = .table → (true : Bool) = false) := by decide +kernel

/-- A packet of each width, on a both-reflected, a neither-reflected and a mixed model. -/
theorem witness_AppendedPacketVerifies :
    let s := withPacket [0x01, 0x03, 0x00, 0x00, 0x00, 0x0A, 0xEE, 0xEE] 8
    s.fault = false ∧ s.buf.wf = true ∧ s.len ≤ s.bufLen ∧
    (∀ W ∈ [Width.w8, Width.w16, Width.w32], W.bits / 8 < s.len) ∧
    romLookup s.rom .w8 1 =
      some { poly := 0x07, init := 0x00, xorout := 0x55, refin := false, refout := false } ∧
    romLookup s.rom .w16 3 =
      some { poly := 0x8005, init := 0xFFFF, xorout := 0x0000, refin := true, refout := true } ∧
    romLookup s.rom .w32 1 =
      some { poly := 0x04C11DB7, init := 0xFFFFFFFF, xorout := 0x00000000, refin := false, refout := false } ∧
    (romLookup { s with rom := otherRom }.rom .w8 0 =
        some { poly := 0x07, init := 0x00, xorout := 0x00, refin := true, refout := false } ∧
      (Engine.bitSerial = .table ∨ Engine.bitSerial = .table → (true : Bool) = false)) := by
  decide +kernel

theorem witness_MixingFunctionsBitByBit : 0 < 32 ∧ 31 < 32 := by decide

theorem witness_RotationsAndScheduleOfTheRounds : 1 ≤ 1 ∧ 1 ≤ 31 ∧ 31 ≤ 31 ∧ 31 < 32 := by decide

/-- Every MD5_ST. -/
theorem witness_Md5InitStartsAContext :
    State.reset.fault = false ∧ State.reset.md5.st = .uninit ∧ (hashing []).fault = false ∧
    (hashing []).md5.st = .active ∧ hashed.fault = false ∧ hashed.md5.st = .finalized := by decide +kernel

/-- A zero-length update; one that fills the buffer to 63 bytes. -/
theorem witness_Md5UpdateCountsAndBuffers :
    (hashing []).fault = false ∧ (hashing []).md5.st = .active ∧
    (hashing []).md5.bufLen.toNat + (hashing []).len < 64 ∧
    ((hashing [0x61]).writeLen 62).md5.st = .active ∧
    ((hashing [0x61]).writeLen 62).md5.bufLen.toNat + ((hashing [0x61]).writeLen 62).len = 63 := by
  decide +kernel

/-- A byte behind 62 others and one behind 63. -/
theorem witness_Md5UpdateConsumesByteByByte :
    (hashing []).fault = false ∧ (hashing []).md5.st = .active ∧
    (List.replicate 63 (0x61 : Byte)).length + 1 < 2 ^ (hashing []).lenW ∧
    ((hashing []).md5.update (List.replicate 62 0x61)).bufLen ≠ 63 ∧
    ((hashing []).md5.update (List.replicate 63 0x61)).bufLen = 63 := by decide +kernel

/-- The chunks of section 2.5.7, of 0, 63, 2, 0 and 135 bytes. -/
theorem witness_ChunkingDoesNotMatter :
    (hashing []).fault = false ∧ (hashing []).md5.st = .active ∧
    ([0, 63, 2, 0, 135].map fun n => List.replicate n (0x61 : Byte)).flatten.length <
      2 ^ (hashing []).lenW := by decide +kernel

/-- The last fill count finished with one block, and the first and the last finished with two. -/
theorem witness_Md5FinalPadsAndEmitsTheDigest :
    let s (p : Nat) := hashing (List.replicate p 0x61)
    (∀ p ∈ [0, 55, 56, 63], (s p).fault = false ∧ (s p).md5.st = .active) ∧
    (s 55).md5.bufLen.toNat ≤ 55 ∧ 56 ≤ (s 56).md5.bufLen.toNat ∧ (s 63).md5.bufLen.toNat = 63 := by
  decide +kernel

/-- Each of UNINIT, ACTIVE and FINALIZED, and a CRC command that answers a next state. -/
theorem witness_LifecycleOfTheMd5Context :
    State.reset.fault = false ∧ State.reset.md5.st ≠ .active ∧ (hashing []).md5.st = .active ∧
    hashed.fault = false ∧ hashed.md5.st ≠ .active ∧
    ((Instr.crc8GenerateTable 4).model ≠ none ∧
      exec (.crc8GenerateTable 4) State.reset = .next (raise .errModel State.reset)) := by
  refine ⟨rfl, by decide, rfl, rfl, by decide, by decide, rfl⟩

/-- A packet in the buffer, a message in progress, a write to come. -/
theorem witness_StepKeepsTheInvariant :
    Inv { (hashing [0x61]).handBuffer digits with host := [.writeLen 9] } ∧
    step { (hashing [0x61]).handBuffer digits with host := [.writeLen 9] } =
      .next (((hashing [0x61]).handBuffer digits).writeLen 9) :=
  ⟨by decide +kernel, rfl⟩

theorem witness_ResetActionClearsTheFlags : { stuck with host := [.rst] }.host = .rst :: [] := rfl

theorem witness_NoStepChangesTheParameters : step State.reset = .next State.reset := rfl

/-- For each register a command that changes it. -/
theorem witness_EveryRegisterHasItsWriters :
    (present (hashing []) 0x00A).any (fun t => t.digest != (hashing []).digest) = true ∧
    (present (withPacket [0x31, 0x32, 0x27] 3) 0x105).any (fun t => t.matched != false) = true ∧
    (present State.reset 0x003).any (fun t => t.tblout != State.reset.tblout && t.latch != State.reset.latch) = true ∧
    (present (withPacket [0x01, 0xEE] 2) 0x004).any (fun t => t.buf != (withPacket [0x01, 0xEE] 2).buf) = true ∧
    (present State.reset 0x008).any (fun t => t.md5 != State.reset.md5) = true ∧
    (present (withData [0x31]) 0x001).any (fun t => t.result != 0 && t.crcReg != 0) = true := by decide +kernel

/-- Two states that agree on the operands and differ in what is left of earlier commands. -/
theorem witness_CrcResultsDependOnTheOperandsOnly :
    let s := withData [0x31]
    let s' := { s with crcReg := 0xFF, result := 0xFF, md5 := s.md5.init }
    (Instr.crc8Compute 0).model = some (.w8, 0) ∧ s.fault = false ∧ s'.fault = false ∧
    s.faultCode = s'.faultCode ∧ s.rom = s'.rom ∧ s.len = s'.len ∧ s.data = s'.data ∧ s.buf = s'.buf ∧
    s.bufLen = s'.bufLen ∧ ∃ t t', exec (.crc8Compute 0) s = .next t ∧ exec (.crc8Compute 0) s' = .next t' :=
  ⟨rfl, rfl, rfl, rfl, rfl, rfl, rfl, rfl, rfl, _, _, rfl, rfl⟩

/-- Commands of each kind that complete without a fault. -/
theorem witness_CrcValuesFitTheWidth :
    (withData [0x31]).fault = false ∧
    (present (withData [0x31]) 0x021).any (fun t => !t.fault) = true ∧
    (present (withPacket [0x01, 0xEE] 2) 0x084).any (fun t => !t.fault) = true ∧
    (present State.reset 0x013).any (fun t => !t.fault) = true ∧
    (present (withPacket [0x31, 0x32, 0x27] 3) 0x185).any (fun t => !t.fault) = true := by decide +kernel

theorem witness_RegisterNumbersOfTheHost : 263 < 264 := by decide

theorem witness_ShippedModelsHaveTheirCheckValues :
    (withData digits).fault = false ∧ (withData digits).rom = shippedRom ∧
    (withData digits).dataBytes = [0x31, 0x32, 0x33, 0x34, 0x35, 0x36, 0x37, 0x38, 0x39] := by decide +kernel

end Sys2Proof.Tests
end

section
/-! Bit reflection (spec/40_bit_reflection.md): how `reflect` acts on the bits of a value, at any width. -/

namespace Sys2Proof.Machine

/-- Rule R80 at any width. -/
theorem getLsbD_reflect {n i : Nat} (v : BitVec n) (hi : i < n) :
    (reflect v).getLsbD i = v.getLsbD (n - 1 - i) := by
  unfold reflect
  rw [BitVec.getLsbD_reverse, BitVec.getMsbD_eq_getLsbD]
  simp [hi]

/-- Rule R81 at any width. -/
@[simp] theorem reflect_reflect {n : Nat} (v : BitVec n) : reflect (reflect v) = v :=
  BitVec.reverse_reverse_eq

/-- Settles O15: both rules hold at any width, so at the three the machine has. -/
theorem reflectionReversesTheBits : Obligations.ReflectionReversesTheBits :=
  fun _ v => ⟨fun _ hi => getLsbD_reflect v hi, reflect_reflect v⟩

end Sys2Proof.Machine
end

section
/-! The forward shift (spec/41_crc_bit_serial.md R86): each bit of `fwdBit`, at any width. -/

namespace Sys2Proof.Machine

/-- The two branches of `fwdBit` as one equation: the polynomial counts only when the bit shifted out is 1. -/
theorem getLsbD_fwdBit {n : Nat} (poly r : BitVec n) (j : Nat) :
    (fwdBit poly r).getLsbD j = ((r <<< 1).getLsbD j ^^ (r.getLsbD (n - 1) && poly.getLsbD j)) := by
  rw [← BitVec.msb_eq_getLsbD_last]
  unfold fwdBit
  split
  next hmsb => simp [hmsb]
  next hmsb => simp [hmsb]

/-- The shift brings a 0 into bit 0, so only the polynomial is left there. -/
theorem getLsbD_fwdBit_zero {n : Nat} (poly r : BitVec n) :
    (fwdBit poly r).getLsbD 0 = (r.getLsbD (n - 1) && poly.getLsbD 0) := by
  have hshift : (r <<< 1).getLsbD 0 = false := by simp
  rw [getLsbD_fwdBit, hshift, Bool.false_xor]

theorem getLsbD_fwdBit_succ {n j : Nat} (poly r : BitVec n) (hj : j + 1 < n) :
    (fwdBit poly r).getLsbD (j + 1) = (r.getLsbD j ^^ (r.getLsbD (n - 1) && poly.getLsbD (j + 1))) := by
  have hshift : (r <<< 1).getLsbD (j + 1) = r.getLsbD j := by
    simp [BitVec.getLsbD_shiftLeft, -BitVec.getLsbD_eq_getElem, hj]
  rw [getLsbD_fwdBit, hshift]

/-- Settles O16: the bit equations hold at any width, so at the three the machine has. -/
theorem forwardShiftBitByBit : Obligations.ForwardShiftBitByBit := by
  intro W poly r
  refine ⟨getLsbD_fwdBit_zero poly r, fun j hpos hj => ?_⟩
  obtain ⟨k, rfl⟩ := Nat.exists_eq_add_of_le' hpos
  exact getLsbD_fwdBit_succ poly r hj

end Sys2Proof.Machine
end

section
/-! The parts of one MD5 step (spec/44_md5.md R141 to R145, R147): the mixing functions bit by bit, the message
words, and the function, message word and rotation amount each round hands to the step. -/

namespace Sys2Proof.Machine

/-! ### The mixing functions -/

theorem getLsbD_mixF {x y z : Word} {i : Nat} (hi : i < 32) :
    (mixF x y z).getLsbD i = if x.getLsbD i then y.getLsbD i else z.getLsbD i := by
  simp only [mixF, BitVec.getLsbD_or, BitVec.getLsbD_and, BitVec.getLsbD_not, hi, decide_true, Bool.true_and]
  cases x.getLsbD i with
  | false => simp
  | true => simp

/-- Round 2 selects as round 1 does, with z in the place of the selector x. -/
theorem mixG_eq_mixF (x y z : Word) : mixG x y z = mixF z x y := by
  unfold mixG mixF
  rw [BitVec.and_comm x z, BitVec.and_comm y]

theorem getLsbD_mixH (x y z : Word) (i : Nat) :
    (mixH x y z).getLsbD i = (x.getLsbD i ^^ (y.getLsbD i ^^ z.getLsbD i)) := by
  simp only [mixH, BitVec.getLsbD_xor, Bool.xor_assoc]

theorem getLsbD_mixI {x y z : Word} {i : Nat} (hi : i < 32) :
    (mixI x y z).getLsbD i = (y.getLsbD i ^^ (x.getLsbD i || !z.getLsbD i)) := by
  simp only [mixI, BitVec.getLsbD_xor, BitVec.getLsbD_or, BitVec.getLsbD_not, hi, decide_true, Bool.true_and]

/-- Settles O32: one law per mixing function. -/
theorem mixingFunctionsBitByBit : Obligations.MixingFunctionsBitByBit := by
  intro x y z i hi
  exact ⟨getLsbD_mixF hi, mixG_eq_mixF x y z ▸ getLsbD_mixF hi, getLsbD_mixH x y z i, getLsbD_mixI hi⟩

/-! ### The message words -/

/-- Settles O33: a message word is an assembled value, whose bit 8q + b is bit b of its byte q. -/
theorem messageWordsAreLittleEndian : Obligations.MessageWordsAreLittleEndian := by
  intro blk j q b
  have hbyte : (8 * q.val + b.val) / 8 = q.val := by omega
  have hbit : (8 * q.val + b.val) % 8 = b.val := by omega
  rw [msgWord, leAssemble_getLsbD _ _ _ (by omega), hbyte, hbit]
  match q with
  | 0 => rfl
  | 1 => rfl
  | 2 => rfl
  | 3 => rfl

/-! ### The schedule of the rounds -/

/-- The step from what its schedule gives: the mixing function `f`, the message word index `j`, the amount `s`. -/
theorem md5Step_of_schedule (blk : Vector Byte 64) (q : Work) {i : Fin 64} {f : Word → Word → Word → Word}
    {j : Fin 16} {s : Nat} (hmix : mix i = f) (hmsg : msgIndex i = j) (hrot : rotAmount i = s) :
    md5Step blk q i =
      { a := q.d, c := q.b, d := q.c,
        b := q.b + rotl32 (q.a + f q.b q.c q.d + kTable[i.val] + msgWord blk j) s } := by
  subst hmix hmsg hrot
  rfl

theorem mix_round1 {i : Fin 64} (h : i.val / 16 = 0) : mix i = mixF := by
  funext x y z
  simp only [mix, h]

theorem mix_round2 {i : Fin 64} (h : i.val / 16 = 1) : mix i = mixG := by
  funext x y z
  simp only [mix, h]

theorem mix_round3 {i : Fin 64} (h : i.val / 16 = 2) : mix i = mixH := by
  funext x y z
  simp only [mix, h]

theorem mix_round4 {i : Fin 64} (h : i.val / 16 = 3) : mix i = mixI := by
  funext x y z
  simp only [mix, h]

theorem msgIndex_round1 {i : Fin 64} (h : i.val / 16 = 0) : msgIndex i = Fin.ofNat 16 i.val := by
  simp only [msgIndex, h]

theorem msgIndex_round2 {i : Fin 64} (h : i.val / 16 = 1) : msgIndex i = Fin.ofNat 16 (5 * i.val + 1) := by
  simp only [msgIndex, h]

theorem msgIndex_round3 {i : Fin 64} (h : i.val / 16 = 2) : msgIndex i = Fin.ofNat 16 (3 * i.val + 5) := by
  simp only [msgIndex, h]

theorem msgIndex_round4 {i : Fin 64} (h : i.val / 16 = 3) : msgIndex i = Fin.ofNat 16 (7 * i.val) := by
  simp only [msgIndex, h]

/-- R143: the four amounts of each round, repeated over its 16 steps. -/
theorem rotAmount_of_round : ∀ k : Fin 16,
    rotAmount ⟨k.val, by omega⟩ = [7, 12, 17, 22].getD (k.val % 4) 0 ∧
    rotAmount ⟨16 + k.val, by omega⟩ = [5, 9, 14, 20].getD (k.val % 4) 0 ∧
    rotAmount ⟨32 + k.val, by omega⟩ = [4, 11, 16, 23].getD (k.val % 4) 0 ∧
    rotAmount ⟨48 + k.val, by omega⟩ = [6, 10, 15, 21].getD (k.val % 4) 0 := by
  decide

/-- Settles O34: in each round the step with the schedule of that round. -/
theorem stepOfEachRound : Obligations.StepOfEachRound := by
  intro blk q k
  obtain ⟨hrot1, hrot2, hrot3, hrot4⟩ := rotAmount_of_round k
  have h1 : k.val / 16 = 0 := by omega
  have h2 : (16 + k.val) / 16 = 1 := by omega
  have h3 : (32 + k.val) / 16 = 2 := by omega
  have h4 : (48 + k.val) / 16 = 3 := by omega
  have hmsg1 : msgIndex ⟨k.val, by omega⟩ = k := (msgIndex_round1 h1).trans (Fin.ofNat_val_eq_self k)
  exact ⟨md5Step_of_schedule blk q (mix_round1 h1) hmsg1 hrot1,
    md5Step_of_schedule blk q (mix_round2 h2) (msgIndex_round2 h2) hrot2,
    md5Step_of_schedule blk q (mix_round3 h3) (msgIndex_round3 h3) hrot3,
    md5Step_of_schedule blk q (mix_round4 h4) (msgIndex_round4 h4) hrot4⟩

end Sys2Proof.Machine
end

section
/-! Which command words are illegal (spec/30_encoding.md R61 to R63, R71, spec/60_exceptions.md R176): the decoder by
one equation per operation, and from it the fields for which each operation rejects a word. -/

namespace Sys2Proof.Machine

/-! ### The decoder of the CRC operations, one equation per OP -/

theorem decodeCrc_compute (W : Width) (form eng : Bool) (id : Byte) :
    decodeCrc 1 W form eng id =
      if eng then .error .nonzeroField else .ok (if form then .computeMirror W id else .compute W id) := by
  cases form <;> cases eng <;> cases W <;> rfl

theorem decodeCrc_computeTable (W : Width) (form eng : Bool) (id : Byte) :
    decodeCrc 2 W form eng id = if form || eng then .error .nonzeroField else .ok (.computeTable W id) := by
  cases form <;> cases eng <;> cases W <;> rfl

theorem decodeCrc_generateTable (W : Width) (form eng : Bool) (id : Byte) :
    decodeCrc 3 W form eng id = if form || eng then .error .nonzeroField else .ok (.generateTable W id) := by
  cases form <;> cases eng <;> cases W <;> rfl

theorem decodeCrc_append (W : Width) (form eng : Bool) (id : Byte) :
    decodeCrc 4 W form eng id = if form then .error .nonzeroField else .ok (.append W id (engineOf eng)) := by
  cases form <;> cases W <;> rfl

theorem decodeCrc_verify (W : Width) (form eng : Bool) (id : Byte) :
    decodeCrc 5 W form eng id = if form then .error .nonzeroField else .ok (.verify W id (engineOf eng)) := by
  cases form <;> cases W <;> rfl

/-- Only WSEL = 3 selects no width (R63). -/
theorem selectWidth_eq_none_iff : ∀ wsel : BitVec 2, selectWidth wsel = none ↔ wsel = 3#2 := by decide

/-! ### Rejection -/

/-- The outcome of a decoding is no instruction. -/
def Rejects (r : Except Reject Instr) : Prop := ∀ i, r ≠ .ok i

@[simp] theorem rejects_error (e : Reject) : Rejects (.error e) := nofun

@[simp] theorem not_rejects_ok (i : Instr) : ¬ Rejects (.ok i) := fun h => h i rfl

@[simp] theorem rejects_ite {c : Prop} [Decidable c] {r r' : Except Reject Instr} :
    Rejects (if c then r else r') ↔ if c then Rejects r else Rejects r' := by
  split <;> rfl

section
variable {op : BitVec 4} {wsel : BitVec 2} {form eng : Bool} {id : Byte}

/-- A CRC operation rejects WSEL = 3 and, at every width, what its own decoder rejects. -/
theorem rejects_decodeFields_crc {P : Prop} (hop : op ∈ [0x1#4, 0x2#4, 0x3#4, 0x4#4, 0x5#4])
    (hcrc : ∀ W, Rejects (decodeCrc op.toNat W form eng id) ↔ P) :
    Rejects (decodeFields op wsel form eng id) ↔ wsel = 3#2 ∨ P := by
  have hfields : decodeFields op wsel form eng id =
      (selectWidth wsel).elim (.error .reservedWidth) fun W => decodeCrc op.toNat W form eng id := by
    unfold decodeFields
    simp only [List.mem_cons, List.not_mem_nil, or_false] at hop
    rcases hop with rfl | rfl | rfl | rfl | rfl <;> cases selectWidth wsel <;> rfl
  rw [hfields, ← selectWidth_eq_none_iff]
  cases selectWidth wsel with
  | none => simp
  | some W => simp [hcrc W]

theorem rejects_compute : Rejects (decodeFields 0x1#4 wsel form eng id) ↔ wsel = 3#2 ∨ eng = true :=
  rejects_decodeFields_crc (by decide) fun W => by simp [decodeCrc_compute]

theorem rejects_computeTable :
    Rejects (decodeFields 0x2#4 wsel form eng id) ↔ wsel = 3#2 ∨ form = true ∨ eng = true :=
  rejects_decodeFields_crc (by decide) fun W => by simp [decodeCrc_computeTable]

theorem rejects_generateTable :
    Rejects (decodeFields 0x3#4 wsel form eng id) ↔ wsel = 3#2 ∨ form = true ∨ eng = true :=
  rejects_decodeFields_crc (by decide) fun W => by simp [decodeCrc_generateTable]

theorem rejects_append : Rejects (decodeFields 0x4#4 wsel form eng id) ↔ wsel = 3#2 ∨ form = true :=
  rejects_decodeFields_crc (by decide) fun W => by simp [decodeCrc_append]

theorem rejects_verify : Rejects (decodeFields 0x5#4 wsel form eng id) ↔ wsel = 3#2 ∨ form = true :=
  rejects_decodeFields_crc (by decide) fun W => by simp [decodeCrc_verify]

theorem rejects_decodeMd5 (i : Instr) :
    Rejects (decodeMd5 i wsel form eng id) ↔ wsel ≠ 0 ∨ form = true ∨ eng = true ∨ id ≠ 0 := by
  simp [decodeMd5, imp_iff_not_or]

theorem rejects_md5 (hop : op ∈ [0x8#4, 0x9#4, 0xA#4]) :
    Rejects (decodeFields op wsel form eng id) ↔ wsel ≠ 0 ∨ form = true ∨ eng = true ∨ id ≠ 0 := by
  simp only [List.mem_cons, List.not_mem_nil, or_false] at hop
  rcases hop with rfl | rfl | rfl
  · exact rejects_decodeMd5 .md5Init
  · exact rejects_decodeMd5 .md5Update
  · exact rejects_decodeMd5 .md5Final

theorem rejects_reserved (hop : op ∈ [0x0#4, 0x6#4, 0x7#4, 0xB#4, 0xC#4, 0xD#4, 0xE#4, 0xF#4]) :
    Rejects (decodeFields op wsel form eng id) := by
  simp only [List.mem_cons, List.not_mem_nil, or_false] at hop
  rcases hop with rfl | rfl | rfl | rfl | rfl | rfl | rfl | rfl <;> exact rejects_error .reservedOp

end

/-- The rows of R62: OP is reserved, one of the five CRC operations or one of the three MD5 operations. -/
theorem op_cases : ∀ op : BitVec 4,
    op ∈ [0x0#4, 0x6#4, 0x7#4, 0xB#4, 0xC#4, 0xD#4, 0xE#4, 0xF#4] ∨ op = 0x1#4 ∨ op = 0x2#4 ∨ op = 0x3#4 ∨
      op = 0x4#4 ∨ op = 0x5#4 ∨ op ∈ [0x8#4, 0x9#4, 0xA#4] := by decide

/-- The list of R176 but for its first entry, the reserved bits. -/
theorem rejects_decodeFields_iff (op : BitVec 4) (wsel : BitVec 2) (form eng : Bool) (id : Byte) :
    Rejects (decodeFields op wsel form eng id) ↔
      op ∈ [0x0#4, 0x6#4, 0x7#4, 0xB#4, 0xC#4, 0xD#4, 0xE#4, 0xF#4] ∨
      (wsel = 3#2 ∧ op ∈ [0x1#4, 0x2#4, 0x3#4, 0x4#4, 0x5#4]) ∨
      ((form = true ∨ eng = true) ∧ op ∈ [0x2#4, 0x3#4]) ∨
      (eng = true ∧ op = 0x1#4) ∨
      (form = true ∧ op ∈ [0x4#4, 0x5#4]) ∨
      ((wsel ≠ 0 ∨ form = true ∨ eng = true ∨ id ≠ 0) ∧ op ∈ [0x8#4, 0x9#4, 0xA#4]) := by
  rcases op_cases op with hop | rfl | rfl | rfl | rfl | rfl | hop
  · exact iff_of_true (rejects_reserved hop) (.inl hop)
  · simp [rejects_compute]
  · simp [rejects_computeTable]
  · simp [rejects_generateTable]
  · simp [rejects_append]
  · simp [rejects_verify]
  · rw [rejects_md5 hop]
    simp only [List.mem_cons, List.not_mem_nil, or_false] at hop
    rcases hop with rfl | rfl | rfl <;> simp

theorem rejects_decode_iff (w : Word) :
    Rejects (decode w) ↔
      rsvField w ≠ 0 ∨
        Rejects (decodeFields (opField w) (wselField w) (formField w) (engField w) (idField w)) := by
  unfold decode
  split
  next hrsv => simp [hrsv]
  next hrsv => exact iff_of_true (rejects_error .reservedBits) (.inl hrsv)

/-- A word that decodes to no instruction raises ERR_ILLEGAL_CMD, whatever the reason of the rejection. -/
theorem runCommand_of_rejects {s : State} (hf : s.fault = false) (h : Rejects (decode s.cmd)) :
    runCommand s = .next (raise .errIllegalCmd s) := by
  unfold runCommand
  split
  next i hi => exact absurd hi (h i)
  next r hr => simp [rejectCommand, unlessStuck, hf]

/-- Settles O5: the reserved bits are tested before the fields, whose rejections are R176's list. -/
theorem illegalWordsAreExactlyTheListedOnes : Obligations.IllegalWordsAreExactlyTheListedOnes :=
  ⟨fun w => (rejects_decode_iff w).trans (or_congr_right (rejects_decodeFields_iff ..)), rfl,
    fun _ hf h => runCommand_of_rejects hf h⟩

end Sys2Proof.Machine
end

section
/-! What a command does in a state with a fault and what a fault of a command leaves (spec/60_exceptions.md R182,
R183). -/

namespace Sys2Proof.Machine

/-! ### FAULT = 1 -/

theorem md5Command_stuck {na : Bool} {s effect : State} (hf : s.fault = true) :
    md5Command na s effect = .next s := by
  simp [md5Command, unlessStuck, hf]

theorem rejectCommand_stuck {r : Reject} {s : State} (hf : s.fault = true) : rejectCommand r s = .next s := by
  simp [rejectCommand, unlessStuck, hf]

theorem exec_stuck (i : Instr) {s : State} (hf : s.fault = true) : exec i s = .next s := by
  rcases exec_form i s with ⟨W, id, nm, lo, effect, -, hexec, -⟩ | ⟨na, c, d, -, hexec⟩
  · exact hexec.trans (crcCommand_stuck hf)
  · exact hexec.trans (md5Command_stuck hf)

theorem runCommand_stuck {s : State} (hf : s.fault = true) : runCommand s = .next s := by
  unfold runCommand
  split
  next i _ => exact exec_stuck i hf
  next r _ => exact rejectCommand_stuck hf

/-- The HOST reads no operand register back, so presenting a word changes nothing it reads (spec/10_state.md R30). -/
@[simp] theorem State.present_readReg (s : State) (w : Word) (n : Nat) : (s.present w).readReg n = s.readReg n := rfl

/-- Settles O9: every instruction and every rejection begins with the test of FAULT. -/
theorem stuckEngineIgnoresEveryCommand : Obligations.StuckEngineIgnoresEveryCommand :=
  fun s hf => ⟨fun i => exec_stuck i hf, fun w => ⟨s.present w, runCommand_stuck hf, rfl, s.present_readReg w⟩⟩

/-! ### The faults a command can enter -/

theorem FaultCode.code_eq_zero_iff (e : FaultCode) : e.code = 0 ↔ e = .none := by
  cases e <;> decide

/-- A CRC command can raise the three faults of its checks; the last only where it tests a length. -/
theorem crcCommand_raised {W : Width} {id : Byte} {nm lo : Bool} {s t : State} {effect : CrcModel W → State}
    (hf : s.fault = false) (h : crcCommand W id nm lo s effect = .next t)
    (heffect : ∀ m, (effect m).fault = s.fault) (ht : t.fault = true) :
    t = raise .errModel s ∨ t = raise .errUnsupported s ∨ (lo = false ∧ t = raise .errBuffer s) := by
  rcases crcCommand_cases h with ⟨hstuck, -⟩ | ⟨-, -, rfl⟩ | ⟨-, m, -, hcase⟩
  · simp [hf] at hstuck
  · exact .inl rfl
  · rcases hcase with ⟨-, -, rfl⟩ | ⟨-, hlo, rfl⟩ | ⟨-, -, rfl⟩
    · exact .inr (.inl rfl)
    · exact .inr (.inr ⟨hlo, rfl⟩)
    · simp [heffect, hf] at ht

theorem md5Command_raised {na : Bool} {s t effect : State} (hf : s.fault = false)
    (h : md5Command na s effect = .next t) (heffect : effect.fault = s.fault) (ht : t.fault = true) :
    t = raise .errProtocol s := by
  rcases md5Command_cases h with ⟨hstuck, -⟩ | ⟨-, -, -, rfl⟩ | ⟨-, -, rfl⟩
  · simp [hf] at hstuck
  · rfl
  · simp [heffect, hf] at ht

/-- The only fault of a command that selects no model, an MD5 command, is ERR_PROTOCOL. -/
theorem exec_raised_of_noModel {i : Instr} {s t : State} (hi : i.model = none) (hf : s.fault = false)
    (ht : t.fault = true) (h : exec i s = .next t) : t = raise .errProtocol s := by
  rcases exec_form i s with ⟨W, id, nm, lo, effect, hmodel, -, -⟩ | ⟨na, c, d, -, hexec⟩
  · simp [hi] at hmodel
  · exact md5Command_raised hf (hexec.symm.trans h) rfl ht

/-- Whatever an instruction raises, its answer is fault entry on the state before. -/
theorem exec_raised {i : Instr} {s t : State} (hf : s.fault = false) (ht : t.fault = true)
    (h : exec i s = .next t) : ∃ e, e ≠ .none ∧ t = raise e s := by
  rcases exec_form i s with ⟨W, id, nm, lo, effect, -, hexec, hframe⟩ | ⟨na, c, d, -, hexec⟩
  · rcases crcCommand_raised hf (hexec.symm.trans h) (fun m => (hframe m).1) ht with rfl | rfl | ⟨-, rfl⟩
    · exact ⟨.errModel, nofun, rfl⟩
    · exact ⟨.errUnsupported, nofun, rfl⟩
    · exact ⟨.errBuffer, nofun, rfl⟩
  · exact ⟨.errProtocol, nofun, md5Command_raised hf (hexec.symm.trans h) rfl ht⟩

theorem runCommand_raised {s t : State} (hf : s.fault = false) (ht : t.fault = true)
    (h : runCommand s = .next t) : ∃ e, e ≠ .none ∧ t = raise e s := by
  cases hd : decode s.cmd with
  | ok i => exact exec_raised hf ht (by simpa [runCommand, hd] using h)
  | error r =>
    have hrej : Rejects (decode s.cmd) := hd ▸ rejects_error r
    rw [runCommand_of_rejects hf hrej] at h
    cases h
    exact ⟨.errIllegalCmd, nofun, rfl⟩

/-- Settles O8: the answer is `raise e s` with `e` not 0, which writes FAULT and FAULT_CODE. -/
theorem faultEntryWritesOnlyTheFaultFields : Obligations.FaultEntryWritesOnlyTheFaultFields := by
  intro s t hf ht hcommand
  have hraised : ∃ e, e ≠ .none ∧ t = raise e s := by
    rcases hcommand with ⟨i, h⟩ | h
    · exact exec_raised hf ht h
    · exact runCommand_raised hf ht h
  obtain ⟨e, he, rfl⟩ := hraised
  exact ⟨mt e.code_eq_zero_iff.1 he, rfl⟩

end Sys2Proof.Machine
end

section
/-! The causes of ERR_MODEL, ERR_UNSUPPORTED and ERR_BUFFER (spec/60_exceptions.md R177 to R179), in the order in which
a CRC command tests them (R181). -/

namespace Sys2Proof.Machine

/-! ### ERR_MODEL -/

theorem romLookup_eq_none_iff (rom : ParamRom) (W : Width) (id : Byte) :
    romLookup rom W id = none ↔ (romModels rom W).length ≤ id.toNat :=
  List.getElem?_eq_none_iff

theorem exec_unknownModel {i : Instr} {W : Width} {id : Byte} {s : State} (hi : i.model = some (W, id))
    (hf : s.fault = false) (hid : (romModels s.rom W).length ≤ id.toNat) :
    exec i s = .next (raise .errModel s) := by
  rcases exec_form i s with ⟨W', id', nm, lo, effect, hmodel, hexec, -⟩ | ⟨na, c, d, hmodel, -⟩
  · cases hi.symm.trans hmodel
    exact hexec.trans (crcCommand_noModel hf ((romLookup_eq_none_iff ..).2 hid))
  · simp [hi] at hmodel

/-- N_MODELS of the shipped ROM (spec/10_state.md R15). -/
theorem length_romModels_shipped (W : Width) : (romModels shippedRom W).length = shippedModels W := by
  cases W <;> rfl

/-- Settles O10: the model is looked up before anything else; the shipped bounds are the lengths of its lists. -/
theorem unknownModelRaisesErrModel : Obligations.UnknownModelRaisesErrModel := by
  refine ⟨rfl, fun i W id s hi hf hid => exec_unknownModel hi hf hid, ?_, ?_⟩
  · intro i W id s hi hf hrom hid
    refine exec_unknownModel hi hf ?_
    rw [hrom, length_romModels_shipped]
    rcases hid with ⟨rfl, h⟩ | ⟨rfl, h⟩ | ⟨rfl, h⟩
    · exact h
    · exact h
    · exact h
  · intro i s t hi hf h ht
    rw [exec_raised_of_noModel hi hf ht h]
    nofun

/-! ### ERR_UNSUPPORTED -/

theorem nonmixed_iff {W : Width} (m : CrcModel W) : m.nonmixed = true ↔ m.refin = m.refout := by
  simp [CrcModel.nonmixed]

theorem nonmixed_eq_false_iff {W : Width} (m : CrcModel W) :
    m.nonmixed = false ↔ m.refin ≠ m.refout := by
  simp [CrcModel.nonmixed]

theorem shipped_nonmixed (W : Width) (id : Byte) (m : CrcModel W) (h : romLookup shippedRom W id = some m) :
    m.refin = m.refout :=
  shipped_forall (P := fun _ m => m.refin = m.refout) (by decide) (by decide) (by decide) W id m h

/-- Settles O11: the five commands ask `crcCommand` for an equal reflection pair, tested before LEN. -/
theorem mixedModelRaisesErrUnsupported : Obligations.MixedModelRaisesErrUnsupported := by
  refine ⟨rfl, fun W id m s hf hm hmixed i hi => ?_, shipped_nonmixed⟩
  have hx : m.nonmixed = false := (nonmixed_eq_false_iff m).2 hmixed
  simp only [List.mem_cons, List.not_mem_nil, or_false] at hi
  rcases hi with rfl | rfl | rfl | rfl | rfl
  · exact (exec_computeMirror W id s).trans (crcCommand_mixed hf hm hx)
  · exact (exec_computeTable W id s).trans (crcCommand_mixed hf hm hx)
  · exact (exec_generateTable W id s).trans (crcCommand_mixed hf hm hx)
  · exact (exec_append W id .table s).trans (crcCommand_mixed hf hm hx)
  · exact (exec_verify W id .table s).trans (crcCommand_mixed hf hm hx)

/-! ### ERR_BUFFER -/

theorem State.hasData_eq_false_iff (s : State) : s.hasData = false ↔ s.len = 0 := by
  simp [State.hasData]

theorem State.packetFits_eq_false_iff (s : State) (W : Width) :
    s.packetFits W = false ↔ s.len ≤ W.bits / 8 ∨ s.bufLen < s.len := by
  rw [State.packetFits, decide_eq_false_iff_not, trailerSize, not_and_or, not_lt, not_le]

theorem needsTable_eq_true_iff (eng : Engine) : needsTable eng = true ↔ eng = .table := by
  cases eng <;> decide

/-- `crcCommand_badLength` for a length test that fails. -/
theorem crcCommand_of_length_fails {W : Width} {id : Byte} {nm lo : Bool} {s : State}
    {effect : CrcModel W → State} {m : CrcModel W} (hf : s.fault = false) (hm : romLookup s.rom W id = some m)
    (hx : nm = true → m.nonmixed = true) (hlo : lo = false) :
    crcCommand W id nm lo s effect = .next (raise .errBuffer s) := by
  subst hlo
  exact crcCommand_badLength hf hm hx

/-- `crcN_generate_table` has no length test, so its faults are those of the model. -/
theorem exec_generateTable_raised {W : Width} {id : Byte} {s t : State} (hf : s.fault = false)
    (ht : t.fault = true) (h : exec (.generateTable W id) s = .next t) :
    t = raise .errModel s ∨ t = raise .errUnsupported s := by
  rw [exec_generateTable] at h
  rcases crcCommand_raised hf h (fun _ => rfl) ht with hmodel | hmixed | ⟨hlo, -⟩
  · exact .inl hmodel
  · exact .inr hmixed
  · exact nomatch hlo

theorem not_errBuffer_of_no_length_test {W : Width} {id : Byte} {i : Instr} {s t : State} (hf : s.fault = false)
    (hi : i ∈ [Instr.generateTable W id, .md5Init, .md5Update, .md5Final]) (h : exec i s = .next t)
    (ht : t.fault = true) : t.faultCode ≠ .errBuffer := by
  rcases List.mem_cons.1 hi with rfl | hmd5
  · rcases exec_generateTable_raised hf ht h with rfl | rfl
    · nofun
    · nofun
  · have hnone : i.model = none := by
      simp only [List.mem_cons, List.not_mem_nil, or_false] at hmd5
      rcases hmd5 with rfl | rfl | rfl <;> rfl
    rw [exec_raised_of_noModel hnone hf ht h]
    nofun

/-- Settles O12: the length test is the last of a CRC command, so it decides once the model has passed. -/
theorem badLengthRaisesErrBuffer : Obligations.BadLengthRaisesErrBuffer := by
  refine ⟨rfl, fun W id s t hf i hi => not_errBuffer_of_no_length_test hf hi, fun W id m s hf hm => ⟨?_, ?_⟩⟩
  · intro hlen
    have hlo : s.hasData = false := s.hasData_eq_false_iff.2 hlen
    refine ⟨(exec_compute W id s).trans (crcCommand_of_length_fails hf hm nofun hlo), fun href => ?_⟩
    have hx : m.nonmixed = true := (nonmixed_iff m).2 href
    exact ⟨(exec_computeMirror W id s).trans (crcCommand_of_length_fails hf hm (fun _ => hx) hlo),
      (exec_computeTable W id s).trans (crcCommand_of_length_fails hf hm (fun _ => hx) hlo)⟩
  · intro hlen eng heng
    have hlo : s.packetFits W = false := (s.packetFits_eq_false_iff W).2 hlen
    have hx (hn : needsTable eng = true) : m.nonmixed = true :=
      (nonmixed_iff m).2 (heng ((needsTable_eq_true_iff eng).1 hn))
    exact ⟨(exec_append W id eng s).trans (crcCommand_of_length_fails hf hm hx hlo),
      (exec_verify W id eng s).trans (crcCommand_of_length_fails hf hm hx hlo)⟩

end Sys2Proof.Machine
end

section
/-! The decoder and the encoder as inverses (spec/30_encoding.md R61, R67, R71, R72): an instruction is its fields, and
a word decodes to an instruction iff it is the word of that instruction's fields. -/

namespace Sys2Proof.Machine

/-! ### Words and fields -/

/-- The fields of format C below the reserved bits (R61). -/
structure Fields where
  op : BitVec 4
  wsel : BitVec 2
  form : Bool
  eng : Bool
  id : Byte

/-- The fields a word holds. -/
def fieldsOf (w : Word) : Fields :=
  { op := opField w, wsel := wselField w, form := formField w, eng := engField w, id := idField w }

/-- The word with these fields and 0 in the reserved bits. -/
def Fields.word (f : Fields) : Word :=
  crcWord (f.op.setWidth 32 ||| f.wsel.setWidth 32 <<< 4 ||| (BitVec.ofBool f.form).setWidth 32 <<< 6) f.id
    (engineOf f.eng)

theorem engBit_engineOf (eng : Bool) : engBit (engineOf eng) = (BitVec.ofBool eng).setWidth 32 := by
  cases eng <;> rfl

theorem fieldsOf_word (f : Fields) : fieldsOf f.word = f := by
  obtain ⟨op, wsel, form, eng, id⟩ := f
  simp only [Fields.word, fieldsOf, Fields.mk.injEq, crcWord, engBit_engineOf]
  refine ⟨?_, ?_, ?_, ?_, ?_⟩
  · ext i hi
    interval_cases i <;> simp [opField]
  · ext i hi
    interval_cases i <;> simp [wselField]
  · simp [formField]
  · simp [engField]
  · ext i hi
    interval_cases i <;> simp [idField]

theorem rsvField_word (f : Fields) : rsvField f.word = 0 := by
  simp only [Fields.word, crcWord, engBit_engineOf]
  ext i hi
  interval_cases i <;> simp [rsvField]

theorem word_fieldsOf {w : Word} (h : rsvField w = 0) : (fieldsOf w).word = w := by
  simp only [Fields.word, crcWord, engBit_engineOf, fieldsOf]
  ext i hi
  rcases Nat.lt_or_ge i 16 with hlow | hhigh
  · interval_cases i <;> simp [opField, wselField, formField, engField, idField]
  · have hbit : w.getLsbD i = false := by
      have hrsv : (rsvField w).getLsbD (i - 16) = false := by rw [h]; exact BitVec.getLsbD_zero
      simpa [rsvField, show i - 16 < 16 by omega, show 16 + (i - 16) = i by omega] using hrsv
    interval_cases i <;> simpa [opField, wselField, formField, engField, idField] using hbit

/-- A word is what an append or verify row tests of it, its MODEL_ID and its ENG (R72). -/
theorem crcWord_of_masked_packet {w p : Word} (h : w &&& 0xFFFF007F = p) :
    crcWord p (idField w) (engineOf (engField w)) = w := by
  subst h
  simp only [crcWord, engBit_engineOf]
  ext i hi
  interval_cases i <;> simp [engField, idField]

/-- A word is what another CRC row tests of it and its MODEL_ID (R72). -/
theorem crcWord_of_masked {w p : Word} (h : w &&& 0xFFFF00FF = p) : crcWord p (idField w) .bitSerial = w := by
  subst h
  simp only [crcWord, engBit]
  ext i hi
  interval_cases i <;> simp [idField]

/-! ### Instructions and fields -/

/-- The inverse of `selectWidth` (R63). -/
def widthSelect : Width → BitVec 2
  | .w8 => 0
  | .w16 => 1
  | .w32 => 2

/-- The value of the ENG bit (R65). -/
def tableBit : Engine → Bool
  | .bitSerial => false
  | .table => true

theorem engineOf_tableBit (eng : Engine) : engineOf (tableBit eng) = eng := by cases eng <;> rfl

theorem selectWidth_eq_some {wsel : BitVec 2} {W : Width} (h : selectWidth wsel = some W) :
    wsel = widthSelect W := by
  revert W wsel
  decide

theorem encode_compute (W : Width) (id : Byte) :
    encode (.compute W id) = Fields.word ⟨1, widthSelect W, false, false, id⟩ := by
  cases W <;> simp [Fields.word, widthSelect, Instr.compute, encode, engineOf]

theorem encode_computeMirror (W : Width) (id : Byte) :
    encode (.computeMirror W id) = Fields.word ⟨1, widthSelect W, true, false, id⟩ := by
  cases W <;> simp [Fields.word, widthSelect, Instr.computeMirror, encode, engineOf]

theorem encode_computeTable (W : Width) (id : Byte) :
    encode (.computeTable W id) = Fields.word ⟨2, widthSelect W, false, false, id⟩ := by
  cases W <;> simp [Fields.word, widthSelect, Instr.computeTable, encode, engineOf]

theorem encode_generateTable (W : Width) (id : Byte) :
    encode (.generateTable W id) = Fields.word ⟨3, widthSelect W, false, false, id⟩ := by
  cases W <;> simp [Fields.word, widthSelect, Instr.generateTable, encode, engineOf]

theorem encode_append (W : Width) (id : Byte) (eng : Bool) :
    encode (.append W id (engineOf eng)) = Fields.word ⟨4, widthSelect W, false, eng, id⟩ := by
  cases W <;> simp [Fields.word, widthSelect, Instr.append, encode, engineOf]

theorem encode_verify (W : Width) (id : Byte) (eng : Bool) :
    encode (.verify W id (engineOf eng)) = Fields.word ⟨5, widthSelect W, false, eng, id⟩ := by
  cases W <;> simp [Fields.word, widthSelect, Instr.verify, encode, engineOf]

/-- A word with 0 in the reserved bits decodes by its fields. -/
theorem decode_word (f : Fields) : decode f.word = decodeFields f.op f.wsel f.form f.eng f.id := by
  have hfields : decode f.word = decodeFields (fieldsOf f.word).op (fieldsOf f.word).wsel
      (fieldsOf f.word).form (fieldsOf f.word).eng (fieldsOf f.word).id := if_pos (rsvField_word f)
  rw [hfields, fieldsOf_word]

/-! ### Decoding and encoding -/

theorem decode_encode (i : Instr) : decode (encode i) = .ok i := by
  rcases instr_families i with ⟨W, id, rfl⟩ | ⟨W, id, rfl⟩ | ⟨W, id, rfl⟩ | ⟨W, id, rfl⟩ | ⟨W, id, eng, rfl⟩ |
    ⟨W, id, eng, rfl⟩ | rfl | rfl | rfl
  · rw [encode_compute, decode_word]; cases W <;> rfl
  · rw [encode_computeMirror, decode_word]; cases W <;> rfl
  · rw [encode_computeTable, decode_word]; cases W <;> rfl
  · rw [encode_generateTable, decode_word]; cases W <;> rfl
  · rw [← engineOf_tableBit eng, encode_append, decode_word]; cases W <;> rfl
  · rw [← engineOf_tableBit eng, encode_verify, decode_word]; cases W <;> rfl
  · decide
  · decide
  · decide

section
variable {op : BitVec 4} {wsel : BitVec 2} {form eng : Bool} {id : Byte} {i : Instr}

theorem decodeCrc_of_decodeFields (hop : op ∈ [0x1#4, 0x2#4, 0x3#4, 0x4#4, 0x5#4])
    (h : decodeFields op wsel form eng id = .ok i) :
    ∃ W, wsel = widthSelect W ∧ decodeCrc op.toNat W form eng id = .ok i := by
  have hfields : decodeFields op wsel form eng id =
      (selectWidth wsel).elim (.error .reservedWidth) fun W => decodeCrc op.toNat W form eng id := by
    unfold decodeFields
    simp only [List.mem_cons, List.not_mem_nil, or_false] at hop
    rcases hop with rfl | rfl | rfl | rfl | rfl <;> cases selectWidth wsel <;> rfl
  cases hW : selectWidth wsel with
  | none => simp [hfields, hW] at h
  | some W => exact ⟨W, selectWidth_eq_some hW, by simpa [hfields, hW] using h⟩

theorem encode_of_decodeMd5 {j : Instr} (h : decodeMd5 j wsel form eng id = .ok i)
    (hj : encode j = Fields.word ⟨op, 0, false, false, 0⟩) : encode i = Fields.word ⟨op, wsel, form, eng, id⟩ := by
  unfold decodeMd5 at h
  split at h
  next hzero =>
    obtain ⟨rfl, rfl, rfl, rfl⟩ := hzero
    cases h
    exact hj
  next => cases h

theorem encode_of_decodeFields (h : decodeFields op wsel form eng id = .ok i) :
    encode i = Fields.word ⟨op, wsel, form, eng, id⟩ := by
  rcases op_cases op with hop | rfl | rfl | rfl | rfl | rfl | hop
  · exact absurd h (rejects_reserved hop i)
  · obtain ⟨W, rfl, hcrc⟩ := decodeCrc_of_decodeFields (by decide) h
    cases eng with
    | true => simp [decodeCrc_compute] at hcrc
    | false =>
      cases form with
      | true => cases (decodeCrc_compute W true false id).symm.trans hcrc; exact encode_computeMirror W id
      | false => cases (decodeCrc_compute W false false id).symm.trans hcrc; exact encode_compute W id
  · obtain ⟨W, rfl, hcrc⟩ := decodeCrc_of_decodeFields (by decide) h
    cases form <;> cases eng <;> cases (decodeCrc_computeTable ..).symm.trans hcrc
    exact encode_computeTable W id
  · obtain ⟨W, rfl, hcrc⟩ := decodeCrc_of_decodeFields (by decide) h
    cases form <;> cases eng <;> cases (decodeCrc_generateTable ..).symm.trans hcrc
    exact encode_generateTable W id
  · obtain ⟨W, rfl, hcrc⟩ := decodeCrc_of_decodeFields (by decide) h
    cases form <;> cases (decodeCrc_append ..).symm.trans hcrc
    exact encode_append W id eng
  · obtain ⟨W, rfl, hcrc⟩ := decodeCrc_of_decodeFields (by decide) h
    cases form <;> cases (decodeCrc_verify ..).symm.trans hcrc
    exact encode_verify W id eng
  · simp only [List.mem_cons, List.not_mem_nil, or_false] at hop
    rcases hop with rfl | rfl | rfl
    · exact encode_of_decodeMd5 (j := .md5Init) h (by decide)
    · exact encode_of_decodeMd5 (j := .md5Update) h (by decide)
    · exact encode_of_decodeMd5 (j := .md5Final) h (by decide)

end

/-- The encoder is the inverse of the decoder (R67). -/
theorem decode_eq_ok_iff {w : Word} {i : Instr} : decode w = .ok i ↔ encode i = w := by
  constructor
  · intro h
    unfold decode at h
    split at h
    next hrsv => exact (encode_of_decodeFields h).trans (word_fieldsOf hrsv)
    next => cases h
  · rintro rfl
    exact decode_encode i

/-- Settles O1: the word of an instruction is the word of its fields, and the decoder reads those back. -/
theorem decodeOfEncodeIsIdentity : Obligations.DecodeOfEncodeIsIdentity := decode_encode

/-- Settles O2: each operation accepts the fields its encoding has and no others. -/
theorem decodedWordEncodesBack : Obligations.DecodedWordEncodesBack := fun _ _ => decode_eq_ok_iff.1

/-- Settles O4: each word is the encoding of its command. -/
theorem wordsWrittenInTheSpecDecode : Obligations.WordsWrittenInTheSpecDecode := by
  simp only [Obligations.WordsWrittenInTheSpecDecode, decode_eq_ok_iff]
  decide

/-! ### Rows -/

/-- The row an instruction's word selects (R72) bears its name. -/
theorem encode_selects (i : Instr) : Laws.EncodingSelectsRow.Statement i := by
  cases i with
  | crc8Compute id => exact Laws.EncodingSelectsRow.crc8Compute id
  | crc16Compute id => exact Laws.EncodingSelectsRow.crc16Compute id
  | crc32Compute id => exact Laws.EncodingSelectsRow.crc32Compute id
  | crc8ComputeMirror id => exact Laws.EncodingSelectsRow.crc8ComputeMirror id
  | crc16ComputeMirror id => exact Laws.EncodingSelectsRow.crc16ComputeMirror id
  | crc32ComputeMirror id => exact Laws.EncodingSelectsRow.crc32ComputeMirror id
  | crc8ComputeTable id => exact Laws.EncodingSelectsRow.crc8ComputeTable id
  | crc16ComputeTable id => exact Laws.EncodingSelectsRow.crc16ComputeTable id
  | crc32ComputeTable id => exact Laws.EncodingSelectsRow.crc32ComputeTable id
  | crc8GenerateTable id => exact Laws.EncodingSelectsRow.crc8GenerateTable id
  | crc16GenerateTable id => exact Laws.EncodingSelectsRow.crc16GenerateTable id
  | crc32GenerateTable id => exact Laws.EncodingSelectsRow.crc32GenerateTable id
  | crc8Append id eng => exact Laws.EncodingSelectsRow.crc8Append id eng
  | crc16Append id eng => exact Laws.EncodingSelectsRow.crc16Append id eng
  | crc32Append id eng => exact Laws.EncodingSelectsRow.crc32Append id eng
  | crc8Verify id eng => exact Laws.EncodingSelectsRow.crc8Verify id eng
  | crc16Verify id eng => exact Laws.EncodingSelectsRow.crc16Verify id eng
  | crc32Verify id eng => exact Laws.EncodingSelectsRow.crc32Verify id eng
  | md5Init => exact Laws.EncodingSelectsRow.md5Init
  | md5Update => exact Laws.EncodingSelectsRow.md5Update
  | md5Final => exact Laws.EncodingSelectsRow.md5Final

theorem row_eq_of_mnemonic_eq : ∀ r ∈ opcodeRows, ∀ r' ∈ opcodeRows, r.mnemonic = r'.mnemonic → r = r' := by
  decide

/-- A word that selects a row is the word of an instruction with the row's name. -/
theorem exists_encode_of_selects {w : Word} {r : OpcodeRow} (hr : r ∈ opcodeRows) (h : r.selects w = true) :
    ∃ i, encode i = w ∧ i.mnemonic = r.mnemonic := by
  have hmask : w &&& r.mask = r.pattern := eq_of_beq h
  have hpacket {p : Word} := crcWord_of_masked_packet (w := w) (p := p)
  have hcrc {p : Word} := crcWord_of_masked (w := w) (p := p)
  have hmd5 {p : Word} (hp : w &&& 0xFFFFFFFF = p) : p = w := hp.symm.trans (BitVec.and_allOnes (x := w))
  simp only [opcodeRows, List.mem_cons, List.not_mem_nil, or_false] at hr
  rcases hr with rfl | rfl | rfl | rfl | rfl | rfl | rfl | rfl | rfl | rfl | rfl | rfl | rfl | rfl | rfl | rfl | rfl |
    rfl | rfl | rfl | rfl
  · exact ⟨.crc8Compute (idField w), hcrc hmask, rfl⟩
  · exact ⟨.crc16Compute (idField w), hcrc hmask, rfl⟩
  · exact ⟨.crc32Compute (idField w), hcrc hmask, rfl⟩
  · exact ⟨.crc8ComputeMirror (idField w), hcrc hmask, rfl⟩
  · exact ⟨.crc16ComputeMirror (idField w), hcrc hmask, rfl⟩
  · exact ⟨.crc32ComputeMirror (idField w), hcrc hmask, rfl⟩
  · exact ⟨.crc8ComputeTable (idField w), hcrc hmask, rfl⟩
  · exact ⟨.crc16ComputeTable (idField w), hcrc hmask, rfl⟩
  · exact ⟨.crc32ComputeTable (idField w), hcrc hmask, rfl⟩
  · exact ⟨.crc8GenerateTable (idField w), hcrc hmask, rfl⟩
  · exact ⟨.crc16GenerateTable (idField w), hcrc hmask, rfl⟩
  · exact ⟨.crc32GenerateTable (idField w), hcrc hmask, rfl⟩
  · exact ⟨.crc8Append (idField w) (engineOf (engField w)), hpacket hmask, rfl⟩
  · exact ⟨.crc16Append (idField w) (engineOf (engField w)), hpacket hmask, rfl⟩
  · exact ⟨.crc32Append (idField w) (engineOf (engField w)), hpacket hmask, rfl⟩
  · exact ⟨.crc8Verify (idField w) (engineOf (engField w)), hpacket hmask, rfl⟩
  · exact ⟨.crc16Verify (idField w) (engineOf (engField w)), hpacket hmask, rfl⟩
  · exact ⟨.crc32Verify (idField w) (engineOf (engField w)), hpacket hmask, rfl⟩
  · exact ⟨.md5Init, hmd5 hmask, rfl⟩
  · exact ⟨.md5Update, hmd5 hmask, rfl⟩
  · exact ⟨.md5Final, hmd5 hmask, rfl⟩

theorem selects_iff {w : Word} {r : OpcodeRow} (hr : r ∈ opcodeRows) :
    r.selects w = true ↔ ∃ i, decode w = .ok i ∧ i.mnemonic = r.mnemonic := by
  simp only [decode_eq_ok_iff]
  refine ⟨exists_encode_of_selects hr, ?_⟩
  rintro ⟨i, rfl, hname⟩
  obtain ⟨r', hr', hname', hsel⟩ := encode_selects i
  rwa [← row_eq_of_mnemonic_eq r' hr' r hr (hname'.trans hname)]

theorem idField_word (f : Fields) : idField f.word = f.id := congrArg Fields.id (fieldsOf_word f)

theorem engField_word (f : Fields) : engField f.word = f.eng := congrArg Fields.eng (fieldsOf_word f)

theorem idField_encode {i : Instr} {W : Width} {id : Byte} (h : i.model = some (W, id)) :
    idField (encode i) = id := by
  rcases instr_families i with ⟨V, j, rfl⟩ | ⟨V, j, rfl⟩ | ⟨V, j, rfl⟩ | ⟨V, j, rfl⟩ | ⟨V, j, eng, rfl⟩ |
    ⟨V, j, eng, rfl⟩ | rfl | rfl | rfl
  · cases (model_compute V j).symm.trans h; rw [encode_compute, idField_word]
  · cases (model_computeMirror V j).symm.trans h; rw [encode_computeMirror, idField_word]
  · cases (model_computeTable V j).symm.trans h; rw [encode_computeTable, idField_word]
  · cases (model_generateTable V j).symm.trans h; rw [encode_generateTable, idField_word]
  · cases (model_append V j eng).symm.trans h; rw [← engineOf_tableBit eng, encode_append, idField_word]
  · cases (model_verify V j eng).symm.trans h; rw [← engineOf_tableBit eng, encode_verify, idField_word]
  · cases h
  · cases h
  · cases h

theorem engField_encode_append (W : Width) (id : Byte) (eng : Engine) :
    engField (encode (.append W id eng)) = tableBit eng := by
  rw [← engineOf_tableBit eng, encode_append, engField_word, engineOf_tableBit]

theorem engField_encode_verify (W : Width) (id : Byte) (eng : Engine) :
    engField (encode (.verify W id eng)) = tableBit eng := by
  rw [← engineOf_tableBit eng, encode_verify, engField_word, engineOf_tableBit]

theorem tableBit_eq_true_iff (eng : Engine) : eng = .table ↔ tableBit eng = true := by cases eng <;> decide

/-- Settles O3: a row is selected by the words of the instructions of its name, which decode to them. -/
theorem wordSelectsARowIffItDecodesToIt : Obligations.WordSelectsARowIffItDecodesToIt := by
  refine ⟨fun w r hr => selects_iff hr, ?_, ?_, ?_, ?_⟩
  · intro w r r' hr hr' hsel hsel'
    obtain ⟨i, hi, hname⟩ := (selects_iff hr).1 hsel
    obtain ⟨j, hj, hname'⟩ := (selects_iff hr').1 hsel'
    cases hi.symm.trans hj
    exact row_eq_of_mnemonic_eq r hr r' hr' (hname.symm.trans hname')
  · intro w hnone
    cases hd : decode w with
    | error e => exact ⟨e, rfl⟩
    | ok i =>
      cases decode_eq_ok_iff.1 hd
      obtain ⟨r, hr, -, hsel⟩ := encode_selects i
      simp [hnone r hr] at hsel
  · intro w i W id hd hmodel
    cases decode_eq_ok_iff.1 hd
    exact (idField_encode hmodel).symm
  · intro w W id eng hd
    rw [tableBit_eq_true_iff]
    rcases hd with hd | hd
    · rw [← decode_eq_ok_iff.1 hd, ← engField_encode_append W id eng]
      exact .rfl
    · rw [← decode_eq_ok_iff.1 hd, ← engField_encode_verify W id eng]
      exact .rfl

end Sys2Proof.Machine
end

section
/-! What a property of the state needs in order to survive a command: the shared operations as elimination rules, and
with them the invariant of a command boundary and what no command or step writes (spec/10_state.md R25 to R29,
spec/60_exceptions.md R183, R184). -/

namespace Sys2Proof.Machine

/-! ### Elimination rules -/

/-- A property of the answer of a CRC command, from a state without a fault or with one. -/
theorem crcCommand_elim {P : State → Prop} {W : Width} {id : Byte} {nm lo : Bool} {s t : State}
    {effect : CrcModel W → State} (h : crcCommand W id nm lo s effect = .next t)
    (hstuck : s.fault = true → P s) (hraise : ∀ e, e ≠ .none → P (raise e s))
    (heffect : ∀ m, lo = true → P (effect m)) : P t := by
  rcases crcCommand_cases h with ⟨hf, rfl⟩ | ⟨-, -, rfl⟩ | ⟨-, m, -, ⟨-, -, rfl⟩ | ⟨-, -, rfl⟩ | ⟨-, hlo, rfl⟩⟩
  · exact hstuck hf
  · exact hraise .errModel nofun
  · exact hraise .errUnsupported nofun
  · exact hraise .errBuffer nofun
  · exact heffect m hlo

/-- A property of the answer of an MD5 command. -/
theorem md5Command_elim {P : State → Prop} {na : Bool} {s t effect : State} (h : md5Command na s effect = .next t)
    (hstuck : s.fault = true → P s) (hraise : P (raise .errProtocol s))
    (heffect : (na = true → s.md5.st = .active) → P effect) : P t := by
  rcases md5Command_cases h with ⟨hf, rfl⟩ | ⟨-, -, -, rfl⟩ | ⟨-, hactive, rfl⟩
  · exact hstuck hf
  · exact hraise
  · exact heffect hactive

/-- A property of the answer of a command word, from the same of every instruction. -/
theorem runCommand_elim {P : State → Prop} {s t : State} (h : runCommand s = .next t)
    (hexec : ∀ i, exec i s = .next t → P t) (hstuck : s.fault = true → P s)
    (hraise : P (raise .errIllegalCmd s)) : P t := by
  unfold runCommand at h
  split at h
  next i _ => exact hexec i h
  next r _ =>
    cases hf : s.fault with
    | true =>
      cases (rejectCommand_stuck hf).symm.trans h
      exact hstuck hf
    | false =>
      simp only [rejectCommand, unlessStuck, hf] at h
      cases h
      exact hraise

/-! ### The registers no command writes -/

/-- The HOST's operand registers, its actions to come and the parameters of the hardware. -/
def SameOperands (s t : State) : Prop :=
  t.cmd = s.cmd ∧ t.len = s.len ∧ t.data = s.data ∧ t.bufLen = s.bufLen ∧ t.rom = s.rom ∧ t.lenW = s.lenW ∧
    t.host = s.host

theorem sameOperands_refl (s : State) : SameOperands s s := ⟨rfl, rfl, rfl, rfl, rfl, rfl, rfl⟩

theorem sameOperands_raise (s : State) (e : FaultCode) : SameOperands s (raise e s) := sameOperands_refl s

theorem exec_sameOperands {i : Instr} {s t : State} (h : exec i s = .next t) : SameOperands s t := by
  rcases exec_form i s with ⟨W, id, nm, lo, effect, -, hexec, hframe⟩ | ⟨na, c, d, -, hexec⟩
  · refine crcCommand_elim (hexec.symm.trans h) (fun _ => sameOperands_refl s)
      (fun e _ => sameOperands_raise s e) fun m _ => ?_
    obtain ⟨-, -, -, -, hrom, hlenW, hcmd, hlen, hdata, hbufLen, hhost⟩ := hframe m
    exact ⟨hcmd, hlen, hdata, hbufLen, hrom, hlenW, hhost⟩
  · exact md5Command_elim (hexec.symm.trans h) (fun _ => sameOperands_refl s)
      (sameOperands_raise s _) fun _ => sameOperands_refl s

theorem runCommand_sameOperands {s t : State} (h : runCommand s = .next t) : SameOperands s t :=
  runCommand_elim h (fun _ => exec_sameOperands) (fun _ => sameOperands_refl s) (sameOperands_raise s _)

/-- Settles O46: no action of the HOST names a parameter, and a command keeps them. -/
theorem noStepChangesTheParameters : Obligations.NoStepChangesTheParameters := by
  intro s t h
  rcases step_cases h with ⟨-, rfl⟩ | ⟨rest, ⟨v, -, rfl⟩ | ⟨bs, -, rfl⟩ | ⟨bs, -, rfl⟩ | ⟨off, v, -, -, rfl⟩ |
    ⟨w, -, hrun⟩ | ⟨-, rfl⟩⟩
  · exact ⟨rfl, rfl⟩
  · exact ⟨rfl, rfl⟩
  · exact ⟨rfl, rfl⟩
  · exact ⟨rfl, rfl⟩
  · exact ⟨rfl, rfl⟩
  · obtain ⟨-, -, -, -, hrom, hlenW, -⟩ := runCommand_sameOperands hrun
    exact ⟨hrom, hlenW⟩
  · exact ⟨rfl, rfl⟩

/-! ### The invariant -/

/-- Fault entry keeps the invariant, because FAULT_CODE is then not 0. -/
theorem inv_raise {s : State} {e : FaultCode} (he : e ≠ .none) (h : Inv s) : Inv (raise e s) :=
  ⟨iff_of_false nofun he, h.2⟩

theorem md5Inv_absorb {c : Md5Context} (v : Byte) (h : Md5Inv c) : Md5Inv (c.absorb v) := by
  intro hactive
  obtain ⟨hcount, hwhole⟩ := h ((Md5Context.absorb_st c v).symm.trans hactive)
  have hbound : c.nbits.toNat < 2 ^ 64 := c.nbits.isLt
  have hnbits : (c.absorb v).nbits.toNat = (c.nbits.toNat + 8) % 2 ^ 64 := by
    rw [Md5Context.absorb_nbits, BitVec.toNat_add]
    rfl
  rw [Md5Context.absorb_bufLen, Md5Context.push_bufLen, hnbits]
  omega

theorem md5Inv_update {c : Md5Context} (bs : List Byte) (h : Md5Inv c) : Md5Inv (c.update bs) := by
  induction bs generalizing c with
  | nil => exact h
  | cons b bs ih => exact ih (md5Inv_absorb b h)

theorem md5Inv_init (c : Md5Context) : Md5Inv c.init := fun _ => by simp

theorem md5Inv_final (c : Md5Context) : Md5Inv c.final :=
  fun hactive => nomatch (Md5Context.final_st c).symm.trans hactive

/-- The trailer of a packet that fits the buffer ends within it. -/
theorem inv_setBuf_trailer {s : State} {W : Width} (hfits : s.packetFits W = true) (c : BitVec W.bits) (h : Inv s) :
    Inv (s.setBuf (s.bufWithTrailer W c)) := by
  obtain ⟨hstatus, hmd5, ⟨hdata, hbuf, hextent⟩, hlen⟩ := h
  have hfits' : trailerSize W < s.len ∧ s.len ≤ s.bufLen := of_decide_eq_true hfits
  refine ⟨hstatus, hmd5, ⟨hdata, Memory.writeBytes_wf hbuf _ _, Memory.writeBytes_below _ hextent ?_⟩, hlen⟩
  rw [leBytes_length, State.trailerOffset, State.setBuf_bufLen]
  omega

theorem inv_setMd5 {s : State} {c : Md5Context} (hc : Md5Inv c) (h : Inv s) : Inv (s.setMd5 c) := ⟨h.1, hc, h.2.2⟩

theorem inv_setDigest {s : State} (d : Vector Byte 16) (h : Inv s) : Inv (s.setDigest d) := h

theorem exec_inv {i : Instr} {s t : State} (hs : Inv s) (h : exec i s = .next t) : Inv t := by
  have hstuck : s.fault = true → Inv s := fun _ => hs
  have hraise (e : FaultCode) (he : e ≠ .none) : Inv (raise e s) := inv_raise he hs
  rcases instr_families i with ⟨W, id, rfl⟩ | ⟨W, id, rfl⟩ | ⟨W, id, rfl⟩ | ⟨W, id, rfl⟩ | ⟨W, id, eng, rfl⟩ |
    ⟨W, id, eng, rfl⟩ | rfl | rfl | rfl
  · exact crcCommand_elim ((exec_compute W id s).symm.trans h) hstuck hraise fun _ _ => hs
  · exact crcCommand_elim ((exec_computeMirror W id s).symm.trans h) hstuck hraise fun _ _ => hs
  · exact crcCommand_elim ((exec_computeTable W id s).symm.trans h) hstuck hraise fun _ _ => hs
  · exact crcCommand_elim ((exec_generateTable W id s).symm.trans h) hstuck hraise fun _ _ => hs
  · exact crcCommand_elim ((exec_append W id eng s).symm.trans h) hstuck hraise fun m hfits =>
      inv_setBuf_trailer hfits (pktCrc m eng (s.payload W)) hs
  · exact crcCommand_elim ((exec_verify W id eng s).symm.trans h) hstuck hraise fun _ _ => hs
  · exact md5Command_elim h hstuck (hraise _ nofun) fun _ => inv_setMd5 (md5Inv_init s.md5) hs
  · exact md5Command_elim h hstuck (hraise _ nofun) fun _ => inv_setMd5 (md5Inv_update s.dataBytes hs.2.1) hs
  · exact md5Command_elim h hstuck (hraise _ nofun) fun _ =>
      inv_setDigest _ (inv_setMd5 (md5Inv_final s.md5) hs)

theorem inv_writeLen {s : State} (v : Nat) (h : Inv s) : Inv (s.writeLen v) := by
  obtain ⟨hstatus, hmd5, hspaces, -⟩ := h
  exact ⟨hstatus, hmd5, hspaces, Nat.mod_lt v (Nat.two_pow_pos s.lenW)⟩

theorem inv_supplyData {s : State} (bs : List Byte) (h : Inv s) : Inv (s.supplyData bs) := by
  obtain ⟨hstatus, hmd5, ⟨-, hbuf, hextent⟩, hlen⟩ := h
  exact ⟨hstatus, hmd5, ⟨Memory.ofBytes_wf bs, hbuf, hextent⟩, hlen⟩

theorem inv_handBuffer {s : State} (bs : List Byte) (h : Inv s) : Inv (s.handBuffer bs) := by
  obtain ⟨hstatus, hmd5, ⟨hdata, -, -⟩, hlen⟩ := h
  exact ⟨hstatus, hmd5, ⟨hdata, Memory.ofBytes_wf bs, Memory.ofBytes_below bs⟩, hlen⟩

theorem inv_setBuf_write {s : State} {off : Nat} (hoff : off < s.bufLen) (v : Byte) (h : Inv s) :
    Inv (s.setBuf (s.buf.write off v)) := by
  obtain ⟨hstatus, hmd5, ⟨hdata, hbuf, hextent⟩, hlen⟩ := h
  exact ⟨hstatus, hmd5, ⟨hdata, Memory.write_wf hbuf off v, Memory.write_below hextent hoff v⟩, hlen⟩

/-- LEN after `rst` is a free value of LEN_W bits. -/
theorem inv_rst {s : State} (h : Inv s) : Inv s.rst := by
  obtain ⟨-, -, hspaces, -⟩ := h
  exact ⟨iff_of_true rfl rfl, nofun, hspaces, BitVec.isLt _⟩

/-- Settles O42: each action of the HOST keeps the invariant, a command because each instruction does. -/
theorem stepKeepsTheInvariant : Obligations.StepKeepsTheInvariant := by
  intro s t hs h
  have hmoved (rest : List HostAction) : Inv (s.hostMoved rest) := hs
  rcases step_cases h with ⟨-, rfl⟩ | ⟨rest, ⟨v, -, rfl⟩ | ⟨bs, -, rfl⟩ | ⟨bs, -, rfl⟩ | ⟨off, v, -, hoff, rfl⟩ |
    ⟨w, -, hrun⟩ | ⟨-, rfl⟩⟩
  · exact hs
  · exact inv_writeLen v (hmoved rest)
  · exact inv_supplyData bs (hmoved rest)
  · exact inv_handBuffer bs (hmoved rest)
  · exact inv_setBuf_write (s := s.hostMoved rest) hoff v (hmoved rest)
  · have hpresented : Inv ((s.hostMoved rest).present w) := hs
    exact runCommand_elim hrun (fun _ => exec_inv hpresented) (fun _ => hpresented) (inv_raise nofun hpresented)
  · exact inv_rst (hmoved rest)

/-- Settles O43: after reset FAULT and MD5_ST decide the first two parts, and the spaces are empty. -/
theorem resetMeetsTheInvariant : Obligations.ResetMeetsTheInvariant :=
  fun _ => ⟨iff_of_true rfl rfl, nofun, ⟨Memory.empty_wf, Memory.empty_wf, nofun⟩, Nat.two_pow_pos 32⟩

end Sys2Proof.Machine
end

section
/-! The registers each command writes, and the limits of what it leaves (spec/10_state.md R26 to R29, R31,
spec/41_crc_bit_serial.md R101, spec/45_arithmetic_and_sequencing.md R161, spec/60_exceptions.md R175 to R184). -/

namespace Sys2Proof.Machine

/-! ### Every fault has its cause -/

theorem needsTable_eq_false_iff (eng : Engine) : needsTable eng = false ↔ eng = .bitSerial := by
  cases eng <;> decide

/-- The commands that need a model that is not mixed (spec/60_exceptions.md R178). -/
def needingNonmixed (W : Width) (id : Byte) : List Instr :=
  [.computeMirror W id, .computeTable W id, .generateTable W id, .append W id .table, .verify W id .table]

/-- The commands with a length test that take a mixed model (R178, R179). -/
def takingMixed (W : Width) (id : Byte) : List Instr :=
  [.compute W id, .append W id .bitSerial, .verify W id .bitSerial]

/-- LEN is bad for the form of the command (R179). -/
def BadLength (i : Instr) (W : Width) (id : Byte) (s : State) : Prop :=
  s.len = 0 ∧ i ∈ [Instr.compute W id, Instr.computeMirror W id, Instr.computeTable W id] ∨
    (s.len ≤ W.bits / 8 ∨ s.bufLen < s.len) ∧ ∃ eng, i ∈ [Instr.append W id eng, Instr.verify W id eng]

/-- What answers FAULT = 1 in `t` after `i` in `s`, in the order of R181. -/
def HasCause (i : Instr) (s t : State) : Prop :=
  (t.faultCode = .errModel ∧ ∃ W id, i.model = some (W, id) ∧ romLookup s.rom W id = none) ∨
  (t.faultCode = .errUnsupported ∧ ∃ W id m, romLookup s.rom W id = some m ∧ m.refin ≠ m.refout ∧
    i ∈ needingNonmixed W id) ∨
  (t.faultCode = .errBuffer ∧ ∃ W id m, romLookup s.rom W id = some m ∧
    (m.refin ≠ m.refout → i ∈ takingMixed W id) ∧ BadLength i W id s) ∨
  (t.faultCode = .errProtocol ∧ s.md5.st ≠ .active ∧ i ∈ [Instr.md5Update, Instr.md5Final])

/-- The causes of the faults of a CRC command, given which tests its form makes. -/
theorem crcCommand_hasCause {i : Instr} {W : Width} {id : Byte} {nm lo : Bool} {s t : State}
    {effect : CrcModel W → State} (hf : s.fault = false) (ht : t.fault = true)
    (h : crcCommand W id nm lo s effect = .next t) (heffect : ∀ m, (effect m).fault = s.fault)
    (hi : i.model = some (W, id)) (hnonmixed : nm = true → i ∈ needingNonmixed W id)
    (hlength : lo = false → (nm = false → i ∈ takingMixed W id) ∧ BadLength i W id s) : HasCause i s t := by
  rcases crcCommand_cases h with ⟨hstuck, -⟩ | ⟨-, hm, rfl⟩ |
    ⟨-, m, hm, ⟨hnm, hx, rfl⟩ | ⟨hx, hlo, rfl⟩ | ⟨-, -, rfl⟩⟩
  · simp [hf] at hstuck
  · exact .inl ⟨rfl, W, id, hi, hm⟩
  · exact .inr (.inl ⟨rfl, W, id, m, hm, (nonmixed_eq_false_iff m).1 hx, hnonmixed hnm⟩)
  · obtain ⟨hmixed, hbad⟩ := hlength hlo
    refine .inr (.inr (.inl ⟨rfl, W, id, m, hm, fun hne => hmixed ?_, hbad⟩))
    cases nm with
    | false => rfl
    | true => exact absurd ((nonmixed_iff m).1 (hx rfl)) hne
  · simp [heffect, hf] at ht

theorem md5Command_hasCause {i : Instr} {s t effect : State} (hf : s.fault = false) (ht : t.fault = true)
    (h : md5Command true s effect = .next t) (heffect : effect.fault = s.fault)
    (hi : i ∈ [Instr.md5Update, Instr.md5Final]) : HasCause i s t := by
  rcases md5Command_cases h with ⟨hstuck, -⟩ | ⟨-, -, hst, rfl⟩ | ⟨-, -, rfl⟩
  · simp [hf] at hstuck
  · exact .inr (.inr (.inr ⟨rfl, hst, hi⟩))
  · simp [heffect, hf] at ht

/-- Settles O13: the tests each family makes are the causes of its faults. -/
theorem everyFaultHasItsCause : Obligations.EveryFaultHasItsCause := by
  intro i s t hf h ht
  rcases instr_families i with ⟨W, id, rfl⟩ | ⟨W, id, rfl⟩ | ⟨W, id, rfl⟩ | ⟨W, id, rfl⟩ | ⟨W, id, eng, rfl⟩ |
    ⟨W, id, eng, rfl⟩ | rfl | rfl | rfl
  · exact crcCommand_hasCause hf ht ((exec_compute W id s).symm.trans h) (fun _ => rfl) (model_compute W id) nofun
      fun hlo => ⟨fun _ => by simp [takingMixed], .inl ⟨s.hasData_eq_false_iff.1 hlo, by simp⟩⟩
  · exact crcCommand_hasCause hf ht ((exec_computeMirror W id s).symm.trans h) (fun _ => rfl)
      (model_computeMirror W id) (fun _ => by simp [needingNonmixed])
      fun hlo => ⟨nofun, .inl ⟨s.hasData_eq_false_iff.1 hlo, by simp⟩⟩
  · exact crcCommand_hasCause hf ht ((exec_computeTable W id s).symm.trans h) (fun _ => rfl)
      (model_computeTable W id) (fun _ => by simp [needingNonmixed])
      fun hlo => ⟨nofun, .inl ⟨s.hasData_eq_false_iff.1 hlo, by simp⟩⟩
  · exact crcCommand_hasCause hf ht ((exec_generateTable W id s).symm.trans h) (fun _ => rfl)
      (model_generateTable W id) (fun _ => by simp [needingNonmixed]) nofun
  · exact crcCommand_hasCause hf ht ((exec_append W id eng s).symm.trans h) (fun _ => rfl)
      (model_append W id eng) (fun hnm => by simp [needingNonmixed, (needsTable_eq_true_iff eng).1 hnm])
      fun hlo => ⟨fun hnm => by simp [takingMixed, (needsTable_eq_false_iff eng).1 hnm],
        .inr ⟨(s.packetFits_eq_false_iff W).1 hlo, eng, by simp⟩⟩
  · exact crcCommand_hasCause hf ht ((exec_verify W id eng s).symm.trans h) (fun _ => rfl)
      (model_verify W id eng) (fun hnm => by simp [needingNonmixed, (needsTable_eq_true_iff eng).1 hnm])
      fun hlo => ⟨fun hnm => by simp [takingMixed, (needsTable_eq_false_iff eng).1 hnm],
        .inr ⟨(s.packetFits_eq_false_iff W).1 hlo, eng, by simp⟩⟩
  · rcases md5Command_cases h with ⟨hstuck, -⟩ | ⟨-, hneeds, -, -⟩ | ⟨-, -, rfl⟩
    · simp [hf] at hstuck
    · cases hneeds
    · simp [hf] at ht
  · exact md5Command_hasCause hf ht h (by simp) (by simp)
  · exact md5Command_hasCause hf ht h (by simp) (by simp)

/-! ### The writers of the registers -/

@[simp] theorem compute_ne_generateTable (W : Width) (id : Byte) :
    Instr.compute W id ≠ .generateTable W id := by cases W <;> nofun

@[simp] theorem computeMirror_ne_generateTable (W : Width) (id : Byte) :
    Instr.computeMirror W id ≠ .generateTable W id := by cases W <;> nofun

@[simp] theorem computeTable_ne_generateTable (W : Width) (id : Byte) :
    Instr.computeTable W id ≠ .generateTable W id := by cases W <;> nofun

@[simp] theorem append_ne_generateTable (W : Width) (id : Byte) (eng : Engine) :
    Instr.append W id eng ≠ .generateTable W id := by cases W <;> nofun

@[simp] theorem verify_ne_generateTable (W : Width) (id : Byte) (eng : Engine) :
    Instr.verify W id eng ≠ .generateTable W id := by cases W <;> nofun

/-- A register that differs between `s` and `t` is one that `i` writes (spec/10_state.md R26 to R28). -/
def WritesOnly (i : Instr) (s t : State) : Prop :=
  (t.digest ≠ s.digest → i = .md5Final) ∧
  (t.matched ≠ s.matched → ∃ W id eng, i = .verify W id eng) ∧
  (t.tblout ≠ s.tblout → ∃ W id, i = .generateTable W id) ∧
  (t.buf ≠ s.buf → ∃ W id eng, i = .append W id eng) ∧
  (t.md5 ≠ s.md5 → i.model = none) ∧
  (t.result ≠ s.result ∨ t.crcReg ≠ s.crcReg → ∃ W id, i.model = some (W, id) ∧ i ≠ .generateTable W id) ∧
  (t.latch ≠ s.latch → i.model ≠ none)

theorem writesOnly_refl (i : Instr) (s : State) : WritesOnly i s s := by simp [WritesOnly]

/-- Fault entry writes none of these registers. -/
theorem writesOnly_raise (i : Instr) (s : State) (e : FaultCode) : WritesOnly i s (raise e s) := writesOnly_refl i s

/-- A CRC command whose effect leaves the registers that are not its own. -/
theorem crcCommand_writesOnly {i : Instr} {W : Width} {id : Byte} {nm lo : Bool} {s t : State}
    {effect : CrcModel W → State} (h : crcCommand W id nm lo s effect = .next t)
    (heffect : ∀ m, WritesOnly i s (effect m)) : WritesOnly i s t :=
  crcCommand_elim h (fun _ => writesOnly_refl i s) (fun e _ => writesOnly_raise i s e) fun m _ => heffect m

theorem md5Command_writesOnly {i : Instr} {na : Bool} {s t effect : State} (h : md5Command na s effect = .next t)
    (heffect : WritesOnly i s effect) : WritesOnly i s t :=
  md5Command_elim h (fun _ => writesOnly_refl i s) (writesOnly_raise i s _) fun _ => heffect

theorem exec_writesOnly {i : Instr} {s t : State} (h : exec i s = .next t) : WritesOnly i s t := by
  rcases instr_families i with ⟨W, id, rfl⟩ | ⟨W, id, rfl⟩ | ⟨W, id, rfl⟩ | ⟨W, id, rfl⟩ | ⟨W, id, eng, rfl⟩ |
    ⟨W, id, eng, rfl⟩ | rfl | rfl | rfl
  · exact crcCommand_writesOnly ((exec_compute W id s).symm.trans h) fun m => by
      simp [WritesOnly]
  · exact crcCommand_writesOnly ((exec_computeMirror W id s).symm.trans h) fun m => by
      simp [WritesOnly]
  · exact crcCommand_writesOnly ((exec_computeTable W id s).symm.trans h) fun m => by
      simp [WritesOnly]
  · exact crcCommand_writesOnly ((exec_generateTable W id s).symm.trans h) fun m => by
      simp [WritesOnly]
  · exact crcCommand_writesOnly ((exec_append W id eng s).symm.trans h) fun m => by
      simp [WritesOnly]
  · exact crcCommand_writesOnly ((exec_verify W id eng s).symm.trans h) fun m => by
      simp [WritesOnly]
  · exact md5Command_writesOnly h (by simp [WritesOnly, Instr.model])
  · exact md5Command_writesOnly h (by simp [WritesOnly, Instr.model])
  · exact md5Command_writesOnly h (by simp [WritesOnly, Instr.model])

/-- Settles O47: the effect of each family writes the registers R26 to R28 give it; no effect writes an operand. -/
theorem everyRegisterHasItsWriters : Obligations.EveryRegisterHasItsWriters := by
  intro i s t h
  obtain ⟨hdigest, hmatched, htblout, hbuf, hmd5, hresult, hlatch⟩ := exec_writesOnly h
  exact ⟨hdigest, hmatched, htblout, hbuf, hmd5, hresult, hlatch, exec_sameOperands h⟩

/-! ### The results depend on the operands only -/

/-- Two runs of one CRC command from states that agree on FAULT, the ROM and the length test go the same way. -/
theorem crcCommand_agree {P : State → State → Prop} {W : Width} {id : Byte} {nm lo lo' : Bool} {s s' t t' : State}
    {effect effect' : CrcModel W → State} (h : crcCommand W id nm lo s effect = .next t)
    (h' : crcCommand W id nm lo' s' effect' = .next t') (hf : s.fault = false) (hf' : s'.fault = false)
    (hrom : s.rom = s'.rom) (hlo : lo = lo') (hraise : ∀ e, P (raise e s) (raise e s'))
    (heffect : ∀ m, P (effect m) (effect' m)) : P t t' := by
  subst hlo
  cases hm : romLookup s.rom W id with
  | none =>
    cases (crcCommand_noModel hf hm).symm.trans h
    cases (crcCommand_noModel hf' (hrom ▸ hm)).symm.trans h'
    exact hraise .errModel
  | some m =>
    have hm' : romLookup s'.rom W id = some m := hrom ▸ hm
    by_cases hx : nm = true → m.nonmixed = true
    · cases lo with
      | false =>
        cases (crcCommand_badLength hf hm hx).symm.trans h
        cases (crcCommand_badLength hf' hm' hx).symm.trans h'
        exact hraise .errBuffer
      | true =>
        cases (crcCommand_runs hf hm hx).symm.trans h
        cases (crcCommand_runs hf' hm' hx).symm.trans h'
        exact heffect m
    · obtain ⟨rfl, hmixed⟩ := Classical.not_imp.1 hx
      rw [Bool.not_eq_true] at hmixed
      cases (crcCommand_mixed hf hm hmixed).symm.trans h
      cases (crcCommand_mixed hf' hm' hmixed).symm.trans h'
      exact hraise .errUnsupported

@[simp] theorem compute_ne_verify (W : Width) (id : Byte) (eng : Engine) :
    Instr.compute W id ≠ .verify W id eng := by cases W <;> nofun

@[simp] theorem computeMirror_ne_verify (W : Width) (id : Byte) (eng : Engine) :
    Instr.computeMirror W id ≠ .verify W id eng := by cases W <;> nofun

@[simp] theorem computeTable_ne_verify (W : Width) (id : Byte) (eng : Engine) :
    Instr.computeTable W id ≠ .verify W id eng := by cases W <;> nofun

@[simp] theorem generateTable_ne_verify (W : Width) (id : Byte) (eng : Engine) :
    Instr.generateTable W id ≠ .verify W id eng := by cases W <;> nofun

@[simp] theorem append_ne_verify (W : Width) (id : Byte) (eng eng' : Engine) :
    Instr.append W id eng ≠ .verify W id eng' := by cases W <;> nofun

/-- What a CRC command `i` answers is the same in `t` and `t'`. -/
def SameAnswer (i : Instr) (W : Width) (id : Byte) (t t' : State) : Prop :=
  t.fault = t'.fault ∧ t.faultCode = t'.faultCode ∧ t.buf = t'.buf ∧
    (t.fault = false →
      (i ≠ .generateTable W id → t.result = t'.result) ∧
      (i = .generateTable W id → t.tblout = t'.tblout) ∧
      (∀ eng, i = .verify W id eng → t.matched = t'.matched))

/-- Settles O48: every effect is a function of the model, LEN, DATA and BUF. -/
theorem crcResultsDependOnTheOperandsOnly : Obligations.CrcResultsDependOnTheOperandsOnly := by
  intro i W id s s' t t' hi hf hf' hcode hrom hlen hdata hbuf hbufLen h h'
  have hraise (e : FaultCode) : SameAnswer i W id (raise e s) (raise e s') := ⟨rfl, rfl, hbuf, nofun⟩
  have hbytes : s.dataBytes = s'.dataBytes := State.dataBytes_congr hdata hlen
  have hdataOk : s.hasData = s'.hasData := by simp [State.hasData, hlen]
  have hpayload (W : Width) : s.payload W = s'.payload W := State.payload_congr hbuf hlen W
  have hfits (W : Width) : s.packetFits W = s'.packetFits W := by simp [State.packetFits, hlen, hbufLen]
  have hfault : s.fault = s'.fault := hf.trans hf'.symm
  rcases instr_families i with ⟨V, j, rfl⟩ | ⟨V, j, rfl⟩ | ⟨V, j, rfl⟩ | ⟨V, j, rfl⟩ | ⟨V, j, eng, rfl⟩ |
    ⟨V, j, eng, rfl⟩ | rfl | rfl | rfl
  · cases (model_compute V j).symm.trans hi
    rw [exec_compute] at h h'
    exact crcCommand_agree (P := SameAnswer _ W id) h h' hf hf' hrom hdataOk hraise fun m => by
      simp [SameAnswer, hfault, hcode, hbuf, hbytes]
  · cases (model_computeMirror V j).symm.trans hi
    rw [exec_computeMirror] at h h'
    exact crcCommand_agree (P := SameAnswer _ W id) h h' hf hf' hrom hdataOk hraise fun m => by
      simp [SameAnswer, hfault, hcode, hbuf, hbytes]
  · cases (model_computeTable V j).symm.trans hi
    rw [exec_computeTable] at h h'
    exact crcCommand_agree (P := SameAnswer _ W id) h h' hf hf' hrom hdataOk hraise fun m => by
      simp [SameAnswer, hfault, hcode, hbuf, hbytes]
  · cases (model_generateTable V j).symm.trans hi
    rw [exec_generateTable] at h h'
    exact crcCommand_agree (P := SameAnswer _ W id) h h' hf hf' hrom rfl hraise fun m => by
      simp [SameAnswer, hfault, hcode, hbuf]
  · cases (model_append V j eng).symm.trans hi
    rw [exec_append] at h h'
    exact crcCommand_agree (P := SameAnswer _ W id) h h' hf hf' hrom (hfits W) hraise fun m => by
      simp [SameAnswer, hfault, hcode, hpayload, State.bufWithTrailer, State.trailerOffset, hlen, hbuf]
  · cases (model_verify V j eng).symm.trans hi
    rw [exec_verify] at h h'
    exact crcCommand_agree (P := SameAnswer _ W id) h h' hf hf' hrom (hfits W) hraise fun m => by
      simp [SameAnswer, hfault, hcode, hpayload, State.trailerValue, State.trailerOffset, hlen, hbuf]
  · cases hi
  · cases hi
  · cases hi

/-! ### Every value fits the width -/

theorem toNat_setWidth_lt {W : Width} (v : BitVec W.bits) : (v.setWidth 32).toNat < 2 ^ W.bits := by
  rw [BitVec.toNat_setWidth]
  exact (Nat.mod_le ..).trans_lt v.isLt

/-- A CRC command that answers without a fault has had its effect. -/
theorem crcCommand_completed {W : Width} {id : Byte} {nm lo : Bool} {s t : State} {effect : CrcModel W → State}
    (hf : s.fault = false) (ht : t.fault = false) (h : crcCommand W id nm lo s effect = .next t) :
    ∃ m, t = effect m := by
  rcases crcCommand_cases h with ⟨hstuck, -⟩ | ⟨-, -, rfl⟩ | ⟨-, m, -, ⟨-, -, rfl⟩ | ⟨-, -, rfl⟩ | ⟨-, -, rfl⟩⟩
  · simp [hf] at hstuck
  · cases ht
  · cases ht
  · cases ht
  · exact ⟨m, rfl⟩

/-- R107: an entry of TBLOUT. -/
theorem tableImage_getElem {W : Width} (m : CrcModel W) (i : Fin 256) :
    (tableImage m)[i] = (tblEntry m (BitVec.ofNat 8 i.val)).setWidth 32 :=
  tabulate_getElem _ i.val i.isLt

/-- Settles O49: every value left is one of W bits, zero-extended. -/
theorem crcValuesFitTheWidth : Obligations.CrcValuesFitTheWidth := by
  intro W id s t hf
  refine ⟨fun i hi h ht => ?_, fun h ht k => ?_, fun eng h ht => ?_⟩
  · simp only [List.mem_cons, List.not_mem_nil, or_false] at hi
    rcases hi with rfl | rfl | rfl | rfl | rfl
    · obtain ⟨m, rfl⟩ := crcCommand_completed hf ht ((exec_compute W id s).symm.trans h)
      exact ⟨toNat_setWidth_lt _, toNat_setWidth_lt _⟩
    · obtain ⟨m, rfl⟩ := crcCommand_completed hf ht ((exec_computeMirror W id s).symm.trans h)
      exact ⟨toNat_setWidth_lt _, toNat_setWidth_lt _⟩
    · obtain ⟨m, rfl⟩ := crcCommand_completed hf ht ((exec_computeTable W id s).symm.trans h)
      exact ⟨toNat_setWidth_lt _, toNat_setWidth_lt _⟩
    · obtain ⟨m, rfl⟩ := crcCommand_completed hf ht ((exec_append W id .bitSerial s).symm.trans h)
      exact ⟨toNat_setWidth_lt _, toNat_setWidth_lt _⟩
    · obtain ⟨m, rfl⟩ := crcCommand_completed hf ht ((exec_append W id .table s).symm.trans h)
      exact ⟨toNat_setWidth_lt _, toNat_setWidth_lt _⟩
  · obtain ⟨m, rfl⟩ := crcCommand_completed hf ht ((exec_generateTable W id s).symm.trans h)
    rw [State.setTblout_tblout, tableImage_getElem]
    exact toNat_setWidth_lt _
  · obtain ⟨m, rfl⟩ := crcCommand_completed hf ht ((exec_verify W id eng s).symm.trans h)
    refine ⟨?_, toNat_setWidth_lt _⟩
    rw [State.setMatched_result, State.setResult_result]
    split
    · exact .inr rfl
    · exact .inl rfl

/-! ### FAULT = 1 and the step -/

/-- Settles O14: the ENGINE ignores the command and no other action names a register it writes. -/
theorem onlyResetLeavesAFault : Obligations.OnlyResetLeavesAFault := by
  refine ⟨?_, ?_⟩
  · intro s t a rest hf hhost ha h
    rcases step_cases h with ⟨hnone, -⟩ | ⟨rest', ⟨v, -, rfl⟩ | ⟨bs, -, rfl⟩ | ⟨bs, -, rfl⟩ | ⟨off, v, -, -, rfl⟩ |
      ⟨w, -, hrun⟩ | ⟨hrst, -⟩⟩
    · simp [hhost] at hnone
    · exact ⟨hf, rfl, rfl, rfl, rfl, rfl, rfl, rfl, rfl⟩
    · exact ⟨hf, rfl, rfl, rfl, rfl, rfl, rfl, rfl, rfl⟩
    · exact ⟨hf, rfl, rfl, rfl, rfl, rfl, rfl, rfl, rfl⟩
    · exact ⟨hf, rfl, rfl, rfl, rfl, rfl, rfl, rfl, rfl⟩
    · cases (runCommand_stuck (s := (s.hostMoved rest').present w) hf).symm.trans hrun
      exact ⟨hf, rfl, rfl, rfl, rfl, rfl, rfl, rfl, rfl⟩
    · exact absurd (List.head_eq_of_cons_eq (hhost.symm.trans hrst)) ha
  · intro s rest _ hhost
    exact ⟨(s.hostMoved rest).rst, by simp only [step, hhost], rfl, rfl, rfl, rfl, rfl⟩

end Sys2Proof.Machine
end

section
/-! Reflection and the shifts of the two bit-serial forms (spec/41_crc_bit_serial.md sections 2 to 4): one mirror shift
is one forward shift seen in a mirror, so the mirror form is the forward form from the reflected seed. -/

namespace Sys2Proof.Machine

/-! ### One mirror shift -/

/-- The two branches of `mirBit` as one equation. -/
theorem getLsbD_mirBit {n : Nat} (p r : BitVec n) (j : Nat) :
    (mirBit p r).getLsbD j = (r.getLsbD (j + 1) ^^ (r.getLsbD 0 && p.getLsbD j)) := by
  unfold mirBit
  split
  next hlow => simp [hlow, -BitVec.getLsbD_eq_getElem, Nat.add_comm 1 j]
  next hlow => simp [hlow, -BitVec.getLsbD_eq_getElem, Nat.add_comm 1 j]

theorem mirBit_reflect {n : Nat} (p r : BitVec n) : mirBit (reflect p) (reflect r) = reflect (fwdBit p r) := by
  refine BitVec.eq_of_getLsbD_eq fun j hj => ?_
  rw [getLsbD_mirBit, getLsbD_reflect (fwdBit p r) hj, getLsbD_reflect p hj,
    getLsbD_reflect r (i := 0) (by omega), Nat.sub_zero]
  rcases Nat.lt_or_ge (j + 1) n with hlt | hge
  · rw [getLsbD_reflect r hlt, show n - 1 - j = n - 1 - (j + 1) + 1 by omega, getLsbD_fwdBit_succ p r (by omega)]
  · rw [BitVec.getLsbD_of_ge _ _ hge, show n - 1 - j = 0 by omega, getLsbD_fwdBit_zero, Bool.false_xor]

/-- Settles O17: the bit equations hold at any width, and reflecting the operands reflects the result. -/
theorem mirrorShiftIsTheForwardShiftReflected : Obligations.MirrorShiftIsTheForwardShiftReflected := by
  intro W p r
  refine ⟨fun j _ => getLsbD_mirBit p r j, ?_, mirBit_reflect p r⟩
  have hpos : W.bits - 1 + 1 = W.bits := by cases W <;> rfl
  rw [getLsbD_mirBit, hpos, BitVec.getLsbD_of_ge _ _ le_rfl, Bool.false_xor]

/-! ### Reflection of whole operands -/

theorem eight_le_bits (W : Width) : 8 ≤ W.bits := by cases W <;> decide

theorem reflect_injective {n : Nat} {v w : BitVec n} (h : reflect v = reflect w) : v = w := by
  rw [← reflect_reflect v, h, reflect_reflect]

theorem reflect_xor {n : Nat} (v w : BitVec n) : reflect (v ^^^ w) = reflect v ^^^ reflect w := by
  refine BitVec.eq_of_getLsbD_eq fun j hj => ?_
  rw [getLsbD_reflect _ hj, BitVec.getLsbD_xor, BitVec.getLsbD_xor, getLsbD_reflect v hj, getLsbD_reflect w hj]

/-- A byte at the top of a register is the reflected byte at the bottom of the reflected register. -/
theorem reflect_shiftLeft_setWidth {n : Nat} (hn : 8 ≤ n) (b : Byte) :
    reflect (b.setWidth n <<< (n - 8)) = (reflect b).setWidth n := by
  refine BitVec.eq_of_getLsbD_eq fun j hj => ?_
  rw [getLsbD_reflect _ hj, BitVec.getLsbD_setWidth, BitVec.getLsbD_shiftLeft, BitVec.getLsbD_setWidth]
  rcases Nat.lt_or_ge j 8 with hlt | hge
  · rw [getLsbD_reflect b hlt, show n - 1 - j - (n - 8) = 8 - 1 - j by omega]
    simp [hj, show n - 1 - j < n by omega, show n - 8 ≤ n - 1 - j by omega, show 8 - 1 - j < n by omega]
  · rw [BitVec.getLsbD_of_ge (reflect b) j hge]
    simp [show n - 1 - j < n - 8 by omega]

theorem iterate_mirBit_reflect {n : Nat} (p r : BitVec n) (k : Nat) :
    (mirBit (reflect p))^[k] (reflect r) = reflect ((fwdBit p)^[k] r) :=
  ((show Function.Semiconj reflect (fwdBit p) (mirBit (reflect p)) from
    fun r => (mirBit_reflect p r).symm).iterate_right k r).symm

theorem mirByte_reflect {W : Width} (m : CrcModel W) (r : BitVec W.bits) (b : Byte) :
    mirByte m (reflect m.poly) (reflect r) b = reflect (fwdByte m r b) := by
  have hbyte : (if m.refin then b else reflect b) = reflect (if m.refin then reflect b else b) := by
    split
    · exact (reflect_reflect b).symm
    · rfl
  simp only [mirByte, fwdByte, hbyte]
  rw [← reflect_shiftLeft_setWidth (eight_le_bits W), ← reflect_xor, iterate_mirBit_reflect]

/-- R93 for the registers. -/
theorem foldl_mirByte {W : Width} (m : CrcModel W) (data : List Byte) (r : BitVec W.bits) :
    data.foldl (mirByte m (reflect m.poly)) r = reflect (data.foldl (fwdByte m) (reflect r)) := by
  induction data generalizing r with
  | nil => exact (reflect_reflect r).symm
  | cons b data ih =>
    rw [List.foldl_cons, List.foldl_cons, ih, ← reflect_reflect r, mirByte_reflect, reflect_reflect, reflect_reflect]

theorem crcMirror_eq_crcForward {W : Width} (m : CrcModel W) (data : List Byte) :
    crcMirror m data = crcForward { m with init := reflect m.init } data := by
  have hstep : fwdByte { m with init := reflect m.init } = fwdByte m := rfl
  simp only [crcMirror, crcForward, foldl_mirByte, reflect_reflect, hstep]

theorem crcMirror_eq_of_palindromic {W : Width} {m : CrcModel W} (h : reflect m.init = m.init) (data : List Byte) :
    crcMirror m data = crcForward m data := by
  rw [crcMirror_eq_crcForward, h]

/-! ### The register determines the seed -/

/-- A polynomial with bit 0 set records the bit shifted out, so a forward shift loses nothing. -/
theorem fwdBit_injective {n : Nat} {p : BitVec n} (hp : p.getLsbD 0 = true) : Function.Injective (fwdBit p) := by
  intro r r' h
  have hmsb : r.getLsbD (n - 1) = r'.getLsbD (n - 1) := by
    simpa only [getLsbD_fwdBit_zero, hp, Bool.and_true] using congrArg (·.getLsbD 0) h
  refine BitVec.eq_of_getLsbD_eq fun j hj => ?_
  rcases Nat.lt_or_ge (j + 1) n with hlt | hge
  · have hbit := congrArg (·.getLsbD (j + 1)) h
    simp only [getLsbD_fwdBit_succ _ _ hlt, hmsb] at hbit
    exact Bool.xor_left_inj.1 hbit
  · rwa [show j = n - 1 by omega]

theorem fwdByte_injective {W : Width} {m : CrcModel W} (hp : m.poly.getLsbD 0 = true) (b : Byte) :
    Function.Injective fun r => fwdByte m r b :=
  ((fwdBit_injective hp).iterate 8).comp fun _ _ h => (BitVec.xor_left_inj _).1 h

theorem foldl_fwdByte_injective {W : Width} {m : CrcModel W} (hp : m.poly.getLsbD 0 = true) (data : List Byte) :
    Function.Injective fun r => data.foldl (fwdByte m) r := by
  induction data with
  | nil => exact Function.injective_id
  | cons b data ih => exact ih.comp (fwdByte_injective hp b)

/-- The CRCs of one message under two seeds agree only if the seeds do. -/
theorem seed_eq_of_crcForward_eq {W : Width} {m : CrcModel W} (hp : m.poly.getLsbD 0 = true) {seed : BitVec W.bits}
    {data : List Byte} (h : crcForward { m with init := seed } data = crcForward m data) : seed = m.init := by
  have hregs : (if m.refout then reflect (data.foldl (fwdByte m) seed) else data.foldl (fwdByte m) seed) =
      if m.refout then reflect (data.foldl (fwdByte m) m.init) else data.foldl (fwdByte m) m.init :=
    (BitVec.xor_left_inj _).1 h
  refine foldl_fwdByte_injective hp data ?_
  cases hout : m.refout with
  | true => exact reflect_injective (by simpa [hout] using hregs)
  | false => simpa [hout] using hregs

/-- Settles O19: the law of the registers, and that the register determines the seed. -/
theorem mirrorFormIsTheForwardFormFromTheReflectedSeed :
    Obligations.MirrorFormIsTheForwardFormFromTheReflectedSeed :=
  fun _ m data => ⟨foldl_mirByte m data, crcMirror_eq_crcForward m data,
    fun hseed => crcMirror_eq_of_palindromic hseed data,
    fun hp h => seed_eq_of_crcForward_eq hp ((crcMirror_eq_crcForward m data).symm.trans h)⟩

end Sys2Proof.Machine
end

section
/-! The table-driven engine (spec/42_crc_table.md R106 to R111): shifting is linear, so eight shifts of a register are
eight shifts of its outgoing byte, which the table holds, and a plain move of the rest. -/

namespace Sys2Proof.Machine

/-! ### Eight forward shifts -/

theorem fwdBit_xor {n : Nat} (p r r' : BitVec n) : fwdBit p (r ^^^ r') = fwdBit p r ^^^ fwdBit p r' := by
  refine BitVec.eq_of_getLsbD_eq fun j _ => ?_
  simp only [BitVec.getLsbD_xor, getLsbD_fwdBit, BitVec.shiftLeft_xor_distrib, Bool.and_xor_distrib_right,
    Bool.xor_assoc, Bool.xor_left_comm]

theorem iterate_fwdBit_xor {n : Nat} (p r r' : BitVec n) (k : Nat) :
    (fwdBit p)^[k] (r ^^^ r') = (fwdBit p)^[k] r ^^^ (fwdBit p)^[k] r' := by
  induction k generalizing r r' with
  | zero => rfl
  | succ k ih => rw [Function.iterate_succ_apply, fwdBit_xor, ih]; rfl

/-- While only zeros are shifted out, the polynomial does not count. -/
theorem iterate_fwdBit_eq_shiftLeft {n : Nat} (p : BitVec n) {r : BitVec n} {k : Nat}
    (h : ∀ j, n ≤ j + k → r.getLsbD j = false) : (fwdBit p)^[k] r = r <<< k := by
  induction k generalizing r with
  | zero => simp
  | succ k ih =>
    have hmsb : r.msb = false := by
      rw [BitVec.msb_eq_getLsbD_last]
      exact h (n - 1) (by omega)
    have hstep : fwdBit p r = r <<< 1 := by simp [fwdBit, hmsb]
    rw [Function.iterate_succ_apply, hstep, ih, ← BitVec.shiftLeft_add, Nat.add_comm]
    intro j hj
    rw [BitVec.getLsbD_shiftLeft]
    rcases Nat.eq_zero_or_pos j with rfl | hpos
    · simp
    · simp [-BitVec.getLsbD_eq_getElem, h (j - 1) (by omega)]

/-- Eight shifts move the register up by a byte and add those of the byte shifted out. -/
theorem iterate_fwdBit_eight {n : Nat} (hn : 8 ≤ n) (p r : BitVec n) :
    (fwdBit p)^[8] r =
      (r <<< 8) ^^^ (fwdBit p)^[8] (((r >>> (n - 8)).setWidth 8).setWidth n <<< (n - 8)) := by
  have hsplit : r = (r <<< 8) >>> 8 ^^^ (((r >>> (n - 8)).setWidth 8).setWidth n <<< (n - 8)) := by
    refine BitVec.eq_of_getLsbD_eq fun j hj => ?_
    simp only [BitVec.getLsbD_xor, BitVec.getLsbD_ushiftRight, BitVec.getLsbD_shiftLeft, BitVec.getLsbD_setWidth, hj]
    rcases Nat.lt_or_ge j (n - 8) with hlow | hhigh
    · simp [-BitVec.getLsbD_eq_getElem, hlow, show 8 + j < n by omega]
    · simp [-BitVec.getLsbD_eq_getElem, show ¬ 8 + j < n by omega, show ¬ j < n - 8 by omega,
        show j - (n - 8) < n by omega, show j - (n - 8) < 8 by omega, show n - 8 + (j - (n - 8)) = j by omega]
  have hlow : (fwdBit p)^[8] ((r <<< 8) >>> 8) = r <<< 8 := by
    rw [iterate_fwdBit_eq_shiftLeft]
    · refine BitVec.eq_of_getLsbD_eq fun j hj => ?_
      simp only [BitVec.getLsbD_ushiftRight, BitVec.getLsbD_shiftLeft, hj]
      rcases Nat.lt_or_ge j 8 with hj8 | hj8
      · simp [hj8]
      · simp [show ¬ j < 8 by omega, show 8 + (j - 8) = j by omega, hj]
    · intro j hj
      simp [-BitVec.getLsbD_eq_getElem, show ¬ 8 + j < n by omega]
  conv_lhs => rw [hsplit, iterate_fwdBit_xor, hlow]

/-! ### Eight mirror shifts -/

theorem reflect_shiftLeft {n : Nat} (r : BitVec n) (k : Nat) : reflect (r <<< k) = reflect r >>> k := by
  refine BitVec.eq_of_getLsbD_eq fun j hj => ?_
  rw [getLsbD_reflect _ hj, BitVec.getLsbD_ushiftRight, BitVec.getLsbD_shiftLeft]
  rcases Nat.lt_or_ge (k + j) n with hlt | hge
  · rw [getLsbD_reflect r hlt]
    simp [-BitVec.getLsbD_eq_getElem, show n - 1 - j < n by omega, show ¬ n - 1 - j < k by omega,
      show n - 1 - j - k = n - 1 - (k + j) by omega]
  · rw [BitVec.getLsbD_of_ge _ _ hge]
    simp [show n - 1 - j < k by omega]

/-- The byte shifted out of a register first is the reflection of the one shifted out of its reflection. -/
theorem topByte_reflect {n : Nat} (hn : 8 ≤ n) (r : BitVec n) :
    (reflect r >>> (n - 8)).setWidth 8 = reflect (r.setWidth 8) := by
  refine BitVec.eq_of_getLsbD_eq fun j hj => ?_
  rw [getLsbD_reflect _ hj, BitVec.getLsbD_setWidth, BitVec.getLsbD_setWidth, BitVec.getLsbD_ushiftRight,
    getLsbD_reflect r (by omega)]
  simp [-BitVec.getLsbD_eq_getElem, hj, show 7 - j < 8 by omega, show n - 1 - (n - 8 + j) = 7 - j by omega]

theorem iterate_mirBit_eight {n : Nat} (hn : 8 ≤ n) (p r : BitVec n) :
    (mirBit p)^[8] r = (r >>> 8) ^^^ (mirBit p)^[8] ((r.setWidth 8).setWidth n) := by
  calc (mirBit p)^[8] r = reflect ((fwdBit (reflect p))^[8] (reflect r)) := by
        rw [← iterate_mirBit_reflect, reflect_reflect, reflect_reflect]
    _ = (r >>> 8) ^^^
          reflect ((fwdBit (reflect p))^[8] ((reflect (r.setWidth 8)).setWidth n <<< (n - 8))) := by
        rw [iterate_fwdBit_eight hn, reflect_xor, reflect_shiftLeft, reflect_reflect, topByte_reflect hn]
    _ = (r >>> 8) ^^^ (mirBit p)^[8] ((r.setWidth 8).setWidth n) := by
        rw [← iterate_mirBit_reflect, reflect_reflect, reflect_shiftLeft_setWidth hn, reflect_reflect]

/-! ### The entries of a table -/

theorem bothReflected_iff {W : Width} (m : CrcModel W) :
    m.bothReflected = true ↔ m.refin = true ∧ m.refout = true := by
  simp [CrcModel.bothReflected]

theorem tblEntry_right {W : Width} {m : CrcModel W} (hin : m.refin = true) (hout : m.refout = true) (i : Byte) :
    tblEntry m i = (mirBit (reflect m.poly))^[8] (i.setWidth W.bits) :=
  if_pos ((bothReflected_iff m).2 ⟨hin, hout⟩)

theorem tblEntry_left {W : Width} {m : CrcModel W} (hin : m.refin = false) (i : Byte) :
    tblEntry m i = (fwdBit m.poly)^[8] (i.setWidth W.bits <<< (W.bits - 8)) :=
  if_neg fun hboth => nomatch hin.symm.trans ((bothReflected_iff m).1 hboth).1

/-- The case R table is the case L table seen in a mirror (R106). -/
theorem tblEntry_right_eq_reflect {W : Width} {m : CrcModel W} (hin : m.refin = true) (hout : m.refout = true)
    (i : Byte) : tblEntry m i = reflect (tblEntry { m with refin := false, refout := false } (reflect i)) := by
  rw [tblEntry_right hin hout, tblEntry_left rfl, ← iterate_mirBit_reflect,
    reflect_shiftLeft_setWidth (eight_le_bits W), reflect_reflect]

theorem reflect_zero {n : Nat} : reflect (0 : BitVec n) = 0 := by
  refine BitVec.eq_of_getLsbD_eq fun j hj => ?_
  simp [getLsbD_reflect _ hj]

theorem fwdBit_zero {n : Nat} (p : BitVec n) : fwdBit p 0 = 0 := by simp [fwdBit]

theorem tblEntry_left_zero {W : Width} {m : CrcModel W} (hin : m.refin = false) : tblEntry m 0 = 0 := by
  have hzero : (0 : Byte).setWidth W.bits <<< (W.bits - 8) = 0 := by simp
  rw [tblEntry_left hin, hzero, Function.iterate_fixed (fwdBit_zero m.poly)]

theorem tblEntry_left_one {W : Width} {m : CrcModel W} (hin : m.refin = false) : tblEntry m 1 = m.poly := by
  have hmsb : (((1 : Byte).setWidth W.bits <<< (W.bits - 8)) <<< 7).msb = true := by cases W <;> decide
  have hout : (((1 : Byte).setWidth W.bits <<< (W.bits - 8)) <<< 7) <<< 1 = 0#_ := by cases W <;> decide
  rw [tblEntry_left hin, Function.iterate_succ_apply', iterate_fwdBit_eq_shiftLeft, fwdBit, if_pos hmsb, hout,
    BitVec.zero_xor]
  intro j hj
  have hlow : j - (W.bits - 8) ≠ 0 := by have := eight_le_bits W; omega
  simp [-BitVec.getLsbD_eq_getElem, BitVec.getLsbD_one, hlow]

theorem tblEntry_left_eq_crc {W : Width} {m : CrcModel W} (hin : m.refin = false) (hout : m.refout = false)
    (i : Byte) : tblEntry m i = crcForward { m with init := 0, xorout := 0 } [i] := by
  rw [tblEntry_left hin]
  simp [crcForward, fwdByte, hin, hout]

theorem tblEntry_right_eq_crc {W : Width} {m : CrcModel W} (hin : m.refin = true) (hout : m.refout = true)
    (i : Byte) : tblEntry m i = crcMirror { m with init := 0, xorout := 0 } [i] := by
  rw [tblEntry_right hin hout]
  simp [crcMirror, mirByte, hin, hout]

/-- Settles O22: the case L table by its shifts, the case R table by reflection. -/
theorem tableEntriesAreRawRemainders : Obligations.TableEntriesAreRawRemainders := by
  intro W m hmixed
  refine ⟨?_, tblEntry_left_one, fun hin => ?_, ?_, ?_, fun i => tblEntry_right_eq_reflect rfl rfl i⟩
  · cases hin : m.refin with
    | false => exact tblEntry_left_zero hin
    | true =>
      have hzero : reflect (0 : Byte) = 0 := by decide
      rw [tblEntry_right_eq_reflect hin (hmixed.symm.trans hin), hzero, tblEntry_left_zero rfl]
      exact reflect_zero
  · have hone : reflect (0x80 : Byte) = 1 := by decide
    rw [tblEntry_right_eq_reflect hin (hmixed.symm.trans hin), hone, tblEntry_left_one rfl]
  · exact fun i hin => tblEntry_left_eq_crc hin (hmixed.symm.trans hin) i
  · exact fun i hin => tblEntry_right_eq_crc hin (hmixed.symm.trans hin) i

/-! ### The steps -/

theorem tblRight_eq_mirByte {W : Width} {m : CrcModel W} (hin : m.refin = true) (hout : m.refout = true)
    (r : BitVec W.bits) (b : Byte) : tblRight (tblEntry m) r b = mirByte m (reflect m.poly) r b := by
  have hbyte : b.setWidth W.bits >>> 8 = 0#_ := by
    ext j hj
    simp
  have hmove : (r ^^^ b.setWidth W.bits) >>> 8 = r >>> 8 := by
    rw [BitVec.ushiftRight_xor_distrib, hbyte, BitVec.xor_zero]
  simp only [tblRight, mirByte, hin, if_true, tblEntry_right hin hout]
  rw [iterate_mirBit_eight (eight_le_bits W) _ (r ^^^ b.setWidth W.bits), hmove]

theorem setWidth_shiftLeft_ushiftRight {n : Nat} (hn : 8 ≤ n) (b : Byte) :
    ((b.setWidth n <<< (n - 8)) >>> (n - 8)).setWidth 8 = b := by
  refine BitVec.eq_of_getLsbD_eq fun j hj => ?_
  simp [-BitVec.getLsbD_eq_getElem, hj, show n - 8 + j < n by omega, show j < n by omega]

theorem tblLeft_eq_fwdByte {W : Width} {m : CrcModel W} (hin : m.refin = false)
    (r : BitVec W.bits) (b : Byte) : tblLeft (tblEntry m) r b = fwdByte m r b := by
  have hmove : (r ^^^ b.setWidth W.bits <<< (W.bits - 8)) <<< 8 = r <<< 8 := by
    rw [BitVec.shiftLeft_xor_distrib, ← BitVec.shiftLeft_add, BitVec.shiftLeft_eq_zero (x := b.setWidth _) (by omega),
      BitVec.xor_zero]
  have hout : ((r ^^^ b.setWidth W.bits <<< (W.bits - 8)) >>> (W.bits - 8)).setWidth 8 =
      (r >>> (W.bits - 8)).setWidth 8 ^^^ b := by
    rw [BitVec.ushiftRight_xor_distrib, BitVec.setWidth_xor, setWidth_shiftLeft_ushiftRight (eight_le_bits W)]
  simp only [tblLeft, fwdByte, hin, tblEntry_left hin]
  rw [if_neg nofun, iterate_fwdBit_eight (eight_le_bits W) _ (r ^^^ b.setWidth W.bits <<< (W.bits - 8)), hmove, hout]

/-- Settles O23: eight shifts of the register with the byte absorbed, split into the outgoing byte and the rest. -/
theorem tableStepIsEightShifts : Obligations.TableStepIsEightShifts :=
  fun _ _ r b => ⟨fun hin hout => tblRight_eq_mirByte hin hout r b, fun hin _ => tblLeft_eq_fwdByte hin r b⟩

/-! ### The engines -/

theorem crcTable_left {W : Width} {m : CrcModel W} (hin : m.refin = false) (hout : m.refout = false)
    (data : List Byte) : crcTable m data = crcForward m data := by
  have hstep : tblLeft (tblEntry m) = fwdByte m := funext₂ (tblLeft_eq_fwdByte hin)
  simp only [crcTable, crcTableReg, crcForward, hin, hout, hstep, Bool.false_eq_true, if_false]

theorem crcTable_right {W : Width} {m : CrcModel W} (hin : m.refin = true) (hout : m.refout = true)
    (data : List Byte) : crcTable m data = crcMirror m data := by
  have hstep : tblRight (tblEntry m) = mirByte m (reflect m.poly) := funext₂ (tblRight_eq_mirByte hin hout)
  simp only [crcTable, crcTableReg, crcMirror, hin, hout, hstep, if_true]

/-- Settles O24: the two equalities of the engines, and R93 for the other form. -/
theorem tableEngineAgreesWithTheBitSerialEngine : Obligations.TableEngineAgreesWithTheBitSerialEngine := by
  intro W m data
  refine ⟨fun hin hout => crcTable_left hin hout data, ?_, fun hin hout => crcTable_right hin hout data, ?_, ?_⟩
  · intro hin hout hseed
    rw [crcTable_left hin hout, crcMirror_eq_of_palindromic hseed]
  · intro hin hout hseed
    rw [crcTable_right hin hout, crcMirror_eq_of_palindromic hseed]
  · intro hin hout hseed hp h
    rw [crcTable_right hin hout, crcMirror_eq_crcForward] at h
    exact hseed (seed_eq_of_crcForward_eq hp h)

theorem pktCrc_right {W : Width} {m : CrcModel W} (hin : m.refin = true) (hout : m.refout = true) (eng : Engine)
    (data : List Byte) : pktCrc m eng data = crcMirror m data := by
  cases eng with
  | bitSerial => exact if_pos ((bothReflected_iff m).2 ⟨hin, hout⟩)
  | table => exact crcTable_right hin hout data

theorem pktCrc_bitSerial {W : Width} {m : CrcModel W} (h : ¬ (m.refin = true ∧ m.refout = true))
    (data : List Byte) : pktCrc m .bitSerial data = crcForward m data :=
  if_neg (mt (bothReflected_iff m).1 h)

theorem pktCrc_left {W : Width} {m : CrcModel W} (hin : m.refin = false) (hout : m.refout = false) (eng : Engine)
    (data : List Byte) : pktCrc m eng data = crcForward m data := by
  cases eng with
  | bitSerial => exact pktCrc_bitSerial (by simp [hin]) data
  | table => exact crcTable_left hin hout data

theorem pktCrc_engine {W : Width} {m : CrcModel W} (hmixed : m.refin = m.refout) (eng eng' : Engine)
    (data : List Byte) : pktCrc m eng data = pktCrc m eng' data := by
  cases hin : m.refin with
  | false =>
    have hout : m.refout = false := hmixed.symm.trans hin
    rw [pktCrc_left hin hout, pktCrc_left hin hout]
  | true =>
    have hout : m.refout = true := hmixed.symm.trans hin
    rw [pktCrc_right hin hout, pktCrc_right hin hout]

/-- Settles O28: ENG = 0 picks by the reflection pair the form the table engine agrees with. -/
theorem packetEnginesAgree : Obligations.PacketEnginesAgree :=
  fun _ _ payload => ⟨fun hmixed => pktCrc_engine hmixed .bitSerial .table payload,
    fun hin hout eng => pktCrc_right hin hout eng payload, fun hin hout eng => pktCrc_left hin hout eng payload,
    fun hmixed => pktCrc_bitSerial (fun h => hmixed (h.1.trans h.2.symm)) payload⟩

/-- R17: no shipped seed changes under reflection. -/
theorem shipped_palindromic (W : Width) (id : Byte) (m : CrcModel W) (h : romLookup shippedRom W id = some m) :
    reflect m.init = m.init :=
  shipped_forall (P := fun _ m => reflect m.init = m.init) (by decide +kernel) (by decide +kernel)
    (by decide +kernel) W id m h

theorem pktCrc_eq_of_nonmixed {W : Width} {m : CrcModel W} (hmixed : m.refin = m.refout)
    (hseed : reflect m.init = m.init) (eng : Engine) (data : List Byte) : pktCrc m eng data = crcForward m data := by
  cases hin : m.refin with
  | false => exact pktCrc_left hin (hmixed.symm.trans hin) eng data
  | true => rw [pktCrc_right hin (hmixed.symm.trans hin), crcMirror_eq_of_palindromic hseed]

/-- Settles O25: a shipped model is not mixed and its seed is a palindrome, so R93 and R111 give one value. -/
theorem shippedModelsHaveOneValue : Obligations.ShippedModelsHaveOneValue := by
  intro W id m h
  have hmixed := shipped_nonmixed W id m h
  have hseed := shipped_palindromic W id m h
  refine ⟨hmixed, hseed, fun data eng => ⟨crcMirror_eq_of_palindromic hseed data, ?_, ?_⟩⟩
  · exact pktCrc_eq_of_nonmixed hmixed hseed .table data
  · exact pktCrc_eq_of_nonmixed hmixed hseed eng data

end Sys2Proof.Machine
end

section
/-! The forward register as the remainder of a polynomial division (spec/10_state.md R13, spec/41_crc_bit_serial.md
R86, R87): modulo the generator one shift is a multiplication by x, so one byte is a multiplication by x^8 and the
addition of the byte times x^W. -/

open Polynomial

namespace Sys2Proof.Machine

/-! ### Values as polynomials -/

theorem coeff_ite_X_pow (c : Bool) (i j : Nat) :
    (if c then (X : (ZMod 2)[X]) ^ i else 0).coeff j = if j = i then (if c then 1 else 0) else 0 := by
  cases c <;> simp [coeff_X_pow]

theorem coeff_bitsPoly {n : Nat} (v : BitVec n) (j : Nat) :
    (bitsPoly v).coeff j = if v.getLsbD j then 1 else 0 := by
  rw [bitsPoly, finsetSum_coeff, Finset.sum_congr rfl fun i _ => coeff_ite_X_pow (v.getLsbD i) i j,
    Finset.sum_ite_eq]
  split
  next => rfl
  next hj => simp [BitVec.getLsbD_of_ge v j (by simpa using hj)]

theorem degree_bitsPoly_lt {n : Nat} (v : BitVec n) : (bitsPoly v).degree < n := by
  rw [degree_lt_iff_coeff_zero]
  intro j hj
  rw [coeff_bitsPoly, BitVec.getLsbD_of_ge v j (by exact_mod_cast hj)]
  rfl

theorem bitsPoly_xor {n : Nat} (v w : BitVec n) : bitsPoly (v ^^^ w) = bitsPoly v + bitsPoly w := by
  ext j
  rw [coeff_add, coeff_bitsPoly, coeff_bitsPoly, coeff_bitsPoly, BitVec.getLsbD_xor]
  cases v.getLsbD j <;> cases w.getLsbD j <;> decide

/-- A byte in the top position of a register. -/
theorem bitsPoly_setWidth_shiftLeft {n : Nat} (hn : 8 ≤ n) (b : Byte) :
    bitsPoly (b.setWidth n <<< (n - 8)) = bitsPoly b * X ^ (n - 8) := by
  ext j
  rw [coeff_mul_X_pow', coeff_bitsPoly, coeff_bitsPoly, BitVec.getLsbD_shiftLeft, BitVec.getLsbD_setWidth]
  rcases Nat.lt_or_ge j (n - 8) with hlow | hhigh
  · rw [if_neg (show ¬ n - 8 ≤ j by omega)]
    simp [hlow]
  · rw [if_pos hhigh]
    rcases Nat.lt_or_ge j n with hj | hj
    · simp [-BitVec.getLsbD_eq_getElem, hj, hhigh, show j - (n - 8) < n by omega]
    · simp [show ¬ j < n by omega, show 8 ≤ j - (n - 8) by omega]

/-- A shift is a multiplication by x that drops the coefficient of x^n. -/
theorem bitsPoly_shiftLeft_one {n : Nat} (v : BitVec n) :
    bitsPoly (v <<< 1) + (if v.msb then X ^ n else 0) = bitsPoly v * X := by
  rw [BitVec.msb_eq_getLsbD_last]
  ext j
  rw [coeff_add, coeff_bitsPoly, coeff_ite_X_pow]
  cases j with
  | zero =>
    rcases Nat.eq_zero_or_pos n with rfl | hpos
    · simp [BitVec.of_length_zero]
    · simp [hpos.ne]
  | succ j =>
    rw [coeff_mul_X, coeff_bitsPoly, BitVec.getLsbD_shiftLeft]
    rcases Nat.lt_trichotomy (j + 1) n with hlt | rfl | hgt
    · simp [-BitVec.getLsbD_eq_getElem, hlt, hlt.ne]
    · simp [-BitVec.getLsbD_eq_getElem]
    · simp [-BitVec.getLsbD_eq_getElem, hgt.ne', show ¬ j + 1 < n by omega, BitVec.getLsbD_of_ge v j (by omega)]

/-! ### Modulo the generator -/

/-- The generator x^n + poly, with its implicit top bit (R13). -/
noncomputable def generator {n : Nat} (p : BitVec n) : (ZMod 2)[X] := X ^ n + bitsPoly p

theorem generator_monic {n : Nat} (p : BitVec n) : (generator p).Monic :=
  monic_X_pow_add (degree_bitsPoly_lt p)

theorem degree_generator {n : Nat} (p : BitVec n) : (generator p).degree = n := by
  rw [generator, degree_add_eq_left_of_degree_lt] <;> rw [degree_X_pow]
  exact degree_bitsPoly_lt p

theorem mk_generator {n : Nat} (p : BitVec n) :
    AdjoinRoot.mk (generator p) (bitsPoly p) = AdjoinRoot.mk (generator p) (X ^ n) := by
  rw [AdjoinRoot.mk_eq_mk, CharTwo.sub_eq_add, add_comm]
  exact dvd_rfl

theorem mk_bitsPoly_fwdBit {n : Nat} (p r : BitVec n) :
    AdjoinRoot.mk (generator p) (bitsPoly (fwdBit p r)) = AdjoinRoot.mk (generator p) (bitsPoly r * X) := by
  rw [← bitsPoly_shiftLeft_one]
  cases hmsb : r.msb with
  | false => simp [fwdBit, hmsb]
  | true => simp only [fwdBit, hmsb, if_true, bitsPoly_xor, map_add, mk_generator]

theorem mk_bitsPoly_iterate_fwdBit {n : Nat} (p r : BitVec n) (k : Nat) :
    AdjoinRoot.mk (generator p) (bitsPoly ((fwdBit p)^[k] r)) =
      AdjoinRoot.mk (generator p) (bitsPoly r * X ^ k) := by
  induction k with
  | zero => simp
  | succ k ih => rw [Function.iterate_succ_apply', mk_bitsPoly_fwdBit, map_mul, ih, ← map_mul, mul_assoc, ← pow_succ]

/-- The byte as it enters the register (R87). -/
def entering {W : Width} (m : CrcModel W) (b : Byte) : Byte := if m.refin then reflect b else b

theorem mk_bitsPoly_fwdByte {W : Width} (m : CrcModel W) (r : BitVec W.bits) (b : Byte) :
    AdjoinRoot.mk (generator m.poly) (bitsPoly (fwdByte m r b)) =
      AdjoinRoot.mk (generator m.poly) (bitsPoly r * X ^ 8 + bitsPoly (entering m b) * X ^ W.bits) := by
  have hpow : (X : (ZMod 2)[X]) ^ W.bits = X ^ (W.bits - 8) * X ^ 8 := by
    rw [← pow_add, Nat.sub_add_cancel (eight_le_bits W)]
  have hbyte : fwdByte m r b =
    (fwdBit m.poly)^[8] (r ^^^ ((entering m b).setWidth W.bits <<< (W.bits - 8))) := rfl
  rw [hbyte, mk_bitsPoly_iterate_fwdBit, bitsPoly_xor, bitsPoly_setWidth_shiftLeft (eight_le_bits W), hpow, add_mul,
    mul_assoc]

theorem messagePoly_concat (data : List Byte) (b : Byte) :
    messagePoly (data ++ [b]) = messagePoly data * X ^ 8 + bitsPoly b := by
  simp [messagePoly]

theorem mk_bitsPoly_foldl_fwdByte {W : Width} (m : CrcModel W) (r : BitVec W.bits) (data : List Byte) :
    AdjoinRoot.mk (generator m.poly) (bitsPoly (data.foldl (fwdByte m) r)) =
      AdjoinRoot.mk (generator m.poly)
        (messagePoly (data.map (entering m)) * X ^ W.bits + bitsPoly r * X ^ (8 * data.length)) := by
  induction data using List.reverseRecOn with
  | nil => simp [messagePoly]
  | append_singleton data b ih =>
    rw [List.foldl_concat, mk_bitsPoly_fwdByte, map_add, map_mul, ih, List.map_append, List.map_singleton,
      messagePoly_concat, List.length_append, List.length_singleton, ← map_mul, ← map_add]
    refine congrArg (AdjoinRoot.mk (generator m.poly)) ?_
    ring

/-- Settles O18: the register is congruent to the message polynomial and its degree is below W. -/
theorem forwardRegisterIsThePolynomialRemainder : Obligations.ForwardRegisterIsThePolynomialRemainder := by
  intro W m r data
  have hdegree : (bitsPoly (data.foldl (fwdByte m) r)).degree < (generator m.poly).degree := by
    rw [degree_generator]
    exact degree_bitsPoly_lt _
  have hcongr := mk_bitsPoly_foldl_fwdByte m r data
  rw [AdjoinRoot.mk_eq_mk] at hcongr
  have hrem := modByMonic_eq_of_dvd_sub (generator_monic m.poly) hcongr
  rw [(modByMonic_eq_self_iff (generator_monic m.poly)).2 hdegree] at hrem
  exact hrem

end Sys2Proof.Machine
end

section
/-! The CRC commands that complete (spec/41_crc_bit_serial.md section 6, spec/42_crc_table.md section 6,
spec/43_packet_append_verify.md): the state each leaves. -/

namespace Sys2Proof.Machine

/-! ### The compute commands and the table read-out -/

/-- `crcCommand_runs` for a length test that passes. -/
theorem crcCommand_of_length_passes {W : Width} {id : Byte} {nm lo : Bool} {s : State}
    {effect : CrcModel W → State} {m : CrcModel W} (hf : s.fault = false) (hm : romLookup s.rom W id = some m)
    (hx : nm = true → m.refin = m.refout) (hlo : lo = true) :
    crcCommand W id nm lo s effect = .next (effect m) := by
  subst hlo
  exact crcCommand_runs hf hm fun hnm => (nonmixed_iff m).2 (hx hnm)

section
variable {W : Width} {id : Byte} {m : CrcModel W} {s : State} (hf : s.fault = false)
  (hm : romLookup s.rom W id = some m)
include hf hm

theorem exec_compute_completes (hlen : s.len ≠ 0) :
    exec (.compute W id) s = .next ((s.loadLatches m false).leaveCrc (crcForward m s.dataBytes)) :=
  (exec_compute W id s).trans (crcCommand_of_length_passes hf hm nofun (decide_eq_true hlen))

theorem exec_computeMirror_completes (hmixed : m.refin = m.refout) (hlen : s.len ≠ 0) :
    exec (.computeMirror W id) s = .next ((s.loadLatches m true).leaveCrc (crcMirror m s.dataBytes)) :=
  (exec_computeMirror W id s).trans
    (crcCommand_of_length_passes hf hm (fun _ => hmixed) (decide_eq_true hlen))

theorem exec_computeTable_completes (hmixed : m.refin = m.refout) (hlen : s.len ≠ 0) :
    exec (.computeTable W id) s = .next ((s.loadLatches m m.refin).leaveTableCrc m s.dataBytes) :=
  (exec_computeTable W id s).trans
    (crcCommand_of_length_passes hf hm (fun _ => hmixed) (decide_eq_true hlen))

theorem exec_generateTable_completes (hmixed : m.refin = m.refout) :
    exec (.generateTable W id) s = .next ((s.loadLatches m m.refin).setTblout (tableImage m)) :=
  (exec_generateTable W id s).trans (crcCommand_of_length_passes hf hm (fun _ => hmixed) rfl)

end

/-- Settles O20: the effect of `crcN_compute`, field by field. -/
theorem forwardComputeLeavesTheForwardCrc : Obligations.ForwardComputeLeavesTheForwardCrc :=
  fun _ _ _ _ hf hm hlen => exec_compute_completes hf hm hlen

/-- Settles O21: the effect of `crcN_compute_mirror`, field by field. -/
theorem mirrorComputeLeavesTheMirrorCrc : Obligations.MirrorComputeLeavesTheMirrorCrc :=
  fun _ _ _ _ hf hm hmixed hlen => exec_computeMirror_completes hf hm hmixed hlen

/-- Settles O26: the effect of `crcN_compute_table`; zero-extension goes through the final XOR. -/
theorem tableComputeLeavesTheTableCrc : Obligations.TableComputeLeavesTheTableCrc :=
  fun _ _ _ _ hf hm hmixed hlen =>
    ⟨_, exec_computeTable_completes hf hm hmixed hlen, rfl, rfl, BitVec.setWidth_xor.symm, rfl⟩

/-- Settles O27: the effect of `crcN_generate_table`, which has no length test. -/
theorem generateTableCopiesTheTable : Obligations.GenerateTableCopiesTheTable :=
  fun _ _ m _ hf hm hmixed => ⟨_, exec_generateTable_completes hf hm hmixed, rfl, tableImage_getElem m, rfl⟩

/-! ### The check values -/

/-- The check values of spec/10_state.md R16: width, MODEL_ID, value. -/
def checkValues : List (Width × Byte × Word) :=
  [(.w8, 0, 0xF4), (.w8, 1, 0xA1), (.w8, 2, 0xD0), (.w8, 3, 0xA1)] ++
    [(.w16, 0, 0xBB3D), (.w16, 1, 0x44C2), (.w16, 2, 0xB4C8), (.w16, 3, 0x4B37), (.w16, 4, 0x2189),
      (.w16, 5, 0x29B1), (.w16, 6, 0x906E), (.w16, 7, 0x31C3), (.w16, 8, 0xEA82)] ++
    [(.w32, 0, 0xCBF43926), (.w32, 1, 0x0376E6E7)]

/-- The forward form on the bytes of "123456789", evaluated for each shipped model. -/
theorem crcForward_check : ∀ row ∈ checkValues, (romLookup shippedRom row.1 row.2.1).map (fun m =>
    (crcForward m [0x31, 0x32, 0x33, 0x34, 0x35, 0x36, 0x37, 0x38, 0x39]).setWidth 32) = some row.2.2 := by
  decide +kernel

/-- Settles O52: one value for the three engines, and the forward form evaluated once for each model. -/
theorem shippedModelsHaveTheirCheckValues : Obligations.ShippedModelsHaveTheirCheckValues := by
  intro s hf hrom hdata row hrow i hi
  obtain ⟨m, hm, hvalue⟩ := Option.map_eq_some_iff.1 (crcForward_check row hrow)
  have hm' : romLookup s.rom row.1 row.2.1 = some m := hrom ▸ hm
  have hlen : s.len ≠ 0 := by
    have hcount := congrArg List.length hdata
    rw [State.dataBytes, Memory.readBytes_length] at hcount
    simp [hcount]
  obtain ⟨hmixed, -, hone⟩ := shippedModelsHaveOneValue row.1 row.2.1 m hm
  obtain ⟨hmirror, htable, -⟩ := hone s.dataBytes .bitSerial
  rw [← hdata] at hvalue
  simp only [List.mem_cons, List.not_mem_nil, or_false] at hi
  rcases hi with rfl | rfl | rfl
  · exact ⟨_, exec_compute_completes hf hm' hlen, hf, hvalue⟩
  · exact ⟨_, exec_computeMirror_completes hf hm' hmixed hlen, hf, by simpa [hmirror] using hvalue⟩
  · exact ⟨_, exec_computeTable_completes hf hm' hmixed hlen, hf, by simpa [htable] using hvalue⟩

/-! ### The trailer of a packet -/

theorem State.bufWithTrailer_read_trailer {s : State} {W : Width} (hwf : s.buf.wf = true) (c : BitVec W.bits) {j : Nat}
    (hj : j < W.bits / 8) : (s.bufWithTrailer W c).read (s.len - W.bits / 8 + j) = byteOf c j := by
  have hin : s.len - W.bits / 8 ≤ s.len - W.bits / 8 + j ∧
      s.len - W.bits / 8 + j - (s.len - W.bits / 8) < (leBytes c (W.bits / 8)).length := by
    rw [leBytes_length]
    omega
  rw [State.bufWithTrailer, State.trailerOffset, trailerSize, Memory.read_writeBytes hwf, dif_pos hin,
    leBytes_getElem, Nat.add_sub_cancel_left]

theorem State.bufWithTrailer_read_other {s : State} {W : Width} (hwf : s.buf.wf = true) (c : BitVec W.bits) {a : Nat}
    (hlen : W.bits / 8 < s.len) (ha : a < s.len - W.bits / 8 ∨ s.len ≤ a) :
    (s.bufWithTrailer W c).read a = s.buf.read a := by
  rw [State.bufWithTrailer, State.trailerOffset, trailerSize, Memory.read_writeBytes hwf, dif_neg]
  rw [leBytes_length]
  omega

/-- A value of whole bytes is assembled from a list of bytes iff each is its byte (spec/20_memory.md R43, R44). -/
theorem eq_leAssemble_iff {n k : Nat} (hn : n = 8 * k) (c : BitVec n) (bs : List Byte) (hbs : bs.length = k) :
    c = leAssemble n bs ↔ ∀ j (hj : j < k), bs[j] = byteOf c j := by
  have hbyte (j i : Nat) (hj : j < k) (hi : i < 8) :
      (leAssemble n bs).getLsbD (8 * j + i) = (bs[j]).getLsbD i := by
    have hquot : (8 * j + i) / 8 = j := by omega
    have hrest : (8 * j + i) % 8 = i := by omega
    rw [leAssemble_getLsbD _ _ _ (by omega), hquot, hrest, List.getD_eq_getElem _ _ (by omega)]
  constructor
  · rintro rfl j hj
    refine BitVec.eq_of_getLsbD_eq fun i hi => ?_
    rw [byteOf_getLsbD _ _ _ hi, hbyte j i hj hi]
  · intro h
    refine BitVec.eq_of_getLsbD_eq fun i hi => ?_
    have hj : i / 8 < k := by omega
    have hsplit : 8 * (i / 8) + i % 8 = i := Nat.div_add_mod i 8
    rw [← hsplit, hbyte _ _ hj (Nat.mod_lt i (by decide)), h _ hj, byteOf_getLsbD _ _ _ (Nat.mod_lt i (by decide))]

theorem eq_trailerValue_iff (s : State) (W : Width) (c : BitVec W.bits) :
    c = s.trailerValue W ↔ ∀ j, j < W.bits / 8 → s.buf.read (s.len - W.bits / 8 + j) = byteOf c j := by
  have hbits : W.bits = 8 * (W.bits / 8) := by cases W <;> rfl
  rw [State.trailerValue, trailerSize, eq_leAssemble_iff hbits c _ (Memory.readBytes_length ..)]
  simp only [Memory.readBytes_getElem]
  rfl

/-! ### Append and verify -/

/-- The state a completed `crcN_append` leaves (R128). -/
def State.appended {W : Width} (s : State) (m : CrcModel W) (eng : Engine) : State :=
  (((s.loadLatches m m.bothReflected).freeCrcReg W).setBuf (s.bufWithTrailer W (pktCrc m eng (s.payload W)))).setResult
    ((pktCrc m eng (s.payload W)).setWidth 32)

@[simp] theorem State.appended_len {W : Width} (s : State) (m : CrcModel W) (eng : Engine) :
    (s.appended m eng).len = s.len := rfl

@[simp] theorem State.appended_buf {W : Width} (s : State) (m : CrcModel W) (eng : Engine) :
    (s.appended m eng).buf = s.bufWithTrailer W (pktCrc m eng (s.payload W)) := rfl

@[simp] theorem State.appended_result {W : Width} (s : State) (m : CrcModel W) (eng : Engine) :
    (s.appended m eng).result = (pktCrc m eng (s.payload W)).setWidth 32 := rfl

/-- The state a completed `crcN_verify` leaves (R129). -/
def State.verified {W : Width} (s : State) (m : CrcModel W) (eng : Engine) : State :=
  (((s.loadLatches m m.bothReflected).freeCrcReg W).setResult
    (if pktCrc m eng (s.payload W) == s.trailerValue W then 1 else 0)).setMatched
      (pktCrc m eng (s.payload W) == s.trailerValue W)

section
variable {W : Width} {id : Byte} {eng : Engine} {m : CrcModel W} {s : State} (hf : s.fault = false)
  (hm : romLookup s.rom W id = some m) (heng : eng = .table → m.refin = m.refout) (hmin : W.bits / 8 < s.len)
  (hmax : s.len ≤ s.bufLen)
include hf hm heng hmin hmax

theorem exec_append_completes : exec (.append W id eng) s = .next (s.appended m eng) :=
  (exec_append W id eng s).trans (crcCommand_of_length_passes hf hm
    (fun hn => heng ((needsTable_eq_true_iff eng).1 hn)) (decide_eq_true ⟨hmin, hmax⟩))

theorem exec_verify_completes : exec (.verify W id eng) s = .next (s.verified m eng) :=
  (exec_verify W id eng s).trans (crcCommand_of_length_passes hf hm
    (fun hn => heng ((needsTable_eq_true_iff eng).1 hn)) (decide_eq_true ⟨hmin, hmax⟩))

end

/-- Settles O29: the reads of the buffer after the trailer is written. -/
theorem appendWritesTheTrailerAndNothingElse : Obligations.AppendWritesTheTrailerAndNothingElse :=
  fun _ _ _ _ _ hf hm heng hwf hmin hmax =>
    ⟨_, exec_append_completes hf hm heng hmin hmax, rfl, fun _ hj => State.bufWithTrailer_read_trailer hwf _ hj,
      fun _ ha => State.bufWithTrailer_read_other hwf _ hmin ha, toNat_setWidth_lt _, rfl⟩

/-- Settles O30: MATCH is the equality of the CRC and the trailer value, which is one of bytes. -/
theorem verifyComparesTheTrailer : Obligations.VerifyComparesTheTrailer :=
  fun W _ _ _ s hf hm heng hmin hmax =>
    ⟨_, exec_verify_completes hf hm heng hmin hmax, rfl, beq_iff_eq.trans (eq_trailerValue_iff s W _), rfl,
      toNat_setWidth_lt _, rfl⟩

/-! ### Append, then verify -/

section
variable {W : Width} {m : CrcModel W} {s : State} (hwf : s.buf.wf = true)
include hwf

theorem State.appended_trailerValue (eng : Engine) :
    (s.appended m eng).trailerValue W = pktCrc m eng (s.payload W) :=
  ((eq_trailerValue_iff _ W _).2 fun _ hj => State.bufWithTrailer_read_trailer hwf _ hj).symm

variable (hmin : W.bits / 8 < s.len)
include hmin

/-- The trailer lies behind the payload (R126). -/
theorem State.appended_payload (eng : Engine) : (s.appended m eng).payload W = s.payload W := by
  refine List.map_congr_left fun k hk => ?_
  exact State.bufWithTrailer_read_other hwf _ hmin
    (.inl (by simpa only [State.trailerOffset, trailerSize, State.appended_len, List.mem_range, Nat.zero_add] using hk))

/-- Writing the trailer a buffer already has leaves the buffer. -/
theorem State.bufWithTrailer_trailerValue : s.bufWithTrailer W (s.trailerValue W) = s.buf := by
  refine Memory.ext_of_read (Memory.writeBytes_wf hwf _ _) hwf fun a => ?_
  by_cases ha : a < s.len - W.bits / 8 ∨ s.len ≤ a
  · exact State.bufWithTrailer_read_other hwf _ hmin ha
  · obtain ⟨j, rfl⟩ : ∃ j, a = s.len - W.bits / 8 + j := ⟨a - (s.len - W.bits / 8), by omega⟩
    have hj : j < W.bits / 8 := by omega
    rw [State.bufWithTrailer_read_trailer hwf _ hj, (eq_trailerValue_iff s W _).1 rfl j hj]

end

/-- Settles O31: after an append the payload is the old one and the trailer value its CRC, whatever the engine. -/
theorem appendedPacketVerifies : Obligations.AppendedPacketVerifies := by
  intro W id eng eng' m s hf hm heng hwf hmin hmax
  have hcrc : pktCrc m eng' ((s.appended m eng).payload W) = (s.appended m eng).trailerValue W := by
    rw [State.appended_payload hwf hmin, State.appended_trailerValue hwf]
    cases eng with
    | bitSerial =>
      cases eng' with
      | bitSerial => rfl
      | table => exact pktCrc_engine (heng (.inr rfl)) _ _ _
    | table => exact pktCrc_engine (heng (.inl rfl)) _ _ _
  have hwf' : (s.appended m eng).buf.wf = true := Memory.writeBytes_wf hwf _ _
  refine ⟨s.appended m eng, (s.appended m eng).verified m eng', (s.appended m eng).appended m eng',
    exec_append_completes hf hm (fun h => heng (.inl h)) hmin hmax,
    exec_verify_completes hf hm (fun h => heng (.inr h)) hmin hmax, ?_, ?_, rfl,
    exec_append_completes hf hm (fun h => heng (.inr h)) hmin hmax, ?_, ?_⟩
  · exact beq_iff_eq.2 hcrc
  · exact if_pos (beq_iff_eq.2 hcrc)
  · rw [State.appended_buf _ m eng', hcrc]
    exact State.bufWithTrailer_trailerValue hwf' hmin
  · rw [State.appended_result _ m eng', hcrc, State.appended_trailerValue hwf, State.appended_result]

end Sys2Proof.Machine
end

section
/-! The streaming layer of MD5 (spec/44_md5.md sections 2 to 4): `push` stores bytes one behind the other, so a run of
pushes that stays below 64 bytes places them in the buffer and one that reaches 64 transforms the buffer. -/

namespace Sys2Proof.Machine

/-! ### The MD5 commands that complete -/

theorem md5Command_runs {na : Bool} {s effect : State} (hf : s.fault = false) (hst : na = true → s.md5.st = .active) :
    md5Command na s effect = .next effect := by
  cases na with
  | false => simp [md5Command, unlessStuck, hf]
  | true => simp [md5Command, unlessStuck, hf, hst rfl]

theorem md5Command_inactive {s effect : State} (hf : s.fault = false) (hst : s.md5.st ≠ .active) :
    md5Command true s effect = .next (raise .errProtocol s) := by
  simp [md5Command, unlessStuck, hf, hst]

theorem exec_md5Init_completes {s : State} (hf : s.fault = false) :
    exec .md5Init s = .next (s.setMd5 s.md5.init) := md5Command_runs hf nofun

section
variable {s : State} (hf : s.fault = false) (hst : s.md5.st = .active)
include hf hst

theorem exec_md5Update_completes : exec .md5Update s = .next (s.setMd5 (s.md5.update s.dataBytes)) :=
  md5Command_runs hf fun _ => hst

theorem exec_md5Final_completes :
    exec .md5Final s = .next ((s.setMd5 s.md5.final).setDigest (digestOf s.md5.final.h)) :=
  md5Command_runs hf fun _ => hst

end

/-- Settles O36: the effect of `md5_init`, field by field. -/
theorem md5InitStartsAContext : Obligations.Md5InitStartsAContext := fun _ hf => exec_md5Init_completes hf

/-- Settles O41: the test of MD5_ST, and that no CRC command writes the context or DIGEST or raises ERR_PROTOCOL. -/
theorem lifecycleOfTheMd5Context : Obligations.LifecycleOfTheMd5Context := by
  refine ⟨rfl, fun s hf => ⟨⟨_, exec_md5Init_completes hf, hf, rfl⟩, fun hst => ⟨?_, ?_⟩, ?_, ?_⟩⟩
  · exact ⟨_, exec_md5Update_completes hf hst, by simp [hf], by simp [hst]⟩
  · exact ⟨_, exec_md5Final_completes hf hst, by simp [hf], by simp [Md5Context.final_st]⟩
  · intro hst i hi
    simp only [List.mem_cons, List.not_mem_nil, or_false] at hi
    rcases hi with rfl | rfl
    · exact md5Command_inactive hf hst
    · exact md5Command_inactive hf hst
  · intro i t hi h
    obtain ⟨hdigest, -, -, -, hmd5, -, -⟩ := exec_writesOnly h
    refine ⟨not_ne_iff.1 fun hne => hi (hmd5 hne), not_ne_iff.1 fun hne => hi ?_, fun ht hcode => ?_⟩
    · rw [hdigest hne]
      rfl
    · rcases everyFaultHasItsCause i s t hf h ht with ⟨hother, -⟩ | ⟨hother, -⟩ | ⟨hother, -⟩ | ⟨-, -, hmem⟩
      · cases hcode.symm.trans hother
      · cases hcode.symm.trans hother
      · cases hcode.symm.trans hother
      · simp only [List.mem_cons, List.not_mem_nil, or_false] at hmem
        rcases hmem with rfl | rfl
        · exact hi rfl
        · exact hi rfl

/-! ### Runs of pushes -/

/-- The buffer with a list of bytes stored from an offset on. -/
def placeBytes (buf : Vector Byte 64) (off : Nat) (bs : List Byte) : Vector Byte 64 :=
  Vector.ofFn fun k : Fin 64 =>
    if off ≤ k.val ∧ k.val < off + bs.length then bs.getD (k.val - off) 0 else buf[k]

theorem placeBytes_getElem (buf : Vector Byte 64) (off : Nat) (bs : List Byte) {k : Nat} (hk : k < 64) :
    (placeBytes buf off bs)[k] =
      if off ≤ k ∧ k < off + bs.length then bs.getD (k - off) 0 else buf[k] := by
  simp [placeBytes]

@[simp] theorem placeBytes_nil (buf : Vector Byte 64) (off : Nat) : placeBytes buf off [] = buf := by
  refine Vector.ext fun k hk => ?_
  rw [placeBytes_getElem]
  exact if_neg (by simp)

theorem placeBytes_cons (buf : Vector Byte 64) {off : Nat} (hoff : off < 64) (b : Byte) (bs : List Byte) :
    placeBytes (buf.set off b) (off + 1) bs = placeBytes buf off (b :: bs) := by
  refine Vector.ext fun k hk => ?_
  rw [placeBytes_getElem, placeBytes_getElem, Vector.getElem_set, List.length_cons]
  rcases Nat.lt_trichotomy k off with hlt | rfl | hgt
  · simp [hlt.ne', show ¬ off ≤ k by omega, show ¬ off + 1 ≤ k by omega]
  · simp
  · have hnext : k - off = k - (off + 1) + 1 := by omega
    simp only [hnext, hgt.ne, if_false, List.getD_cons_succ]
    exact if_congr (by omega) rfl rfl

theorem toNat_add_one {n : BitVec 6} (h : n.toNat < 63) : (n + 1).toNat = n.toNat + 1 := by
  rw [BitVec.toNat_add]
  exact Nat.mod_eq_of_lt (by omega : n.toNat + 1 < 64)

/-- Bytes that do not fill the buffer are stored behind the bytes it has. -/
theorem foldl_push_below {c : Md5Context} {bs : List Byte} (h : c.bufLen.toNat + bs.length < 64) :
    bs.foldl Md5Context.push c =
      { c with buf := placeBytes c.buf c.bufLen.toNat bs, bufLen := c.bufLen + BitVec.ofNat 6 bs.length } := by
  induction bs generalizing c with
  | nil => simp
  | cons b bs ih =>
    rw [List.length_cons] at h
    have hbelow : c.bufLen.toNat < 63 := by omega
    have hcount : c.bufLen + 1 + BitVec.ofNat 6 bs.length = c.bufLen + BitVec.ofNat 6 (bs.length + 1) := by
      rw [BitVec.add_assoc, BitVec.add_comm 1, BitVec.ofNat_add]
      rfl
    rw [List.foldl_cons, c.push_below b hbelow, ih (by simp only [toNat_add_one hbelow]; omega)]
    simp only [toNat_add_one hbelow, placeBytes_cons, hcount, List.length_cons]

/-- Bytes that fill the buffer are stored behind the bytes it has and the buffer is transformed. -/
theorem foldl_push_fills {c : Md5Context} {bs : List Byte} (h : c.bufLen.toNat + bs.length = 64) :
    (bs.foldl Md5Context.push c).h = md5Block c.h (placeBytes c.buf c.bufLen.toNat bs) ∧
      (bs.foldl Md5Context.push c).bufLen = 0 := by
  induction bs generalizing c with
  | nil => exact absurd c.bufLen.isLt (by rw [List.length_nil] at h; omega)
  | cons b bs ih =>
    rw [List.length_cons] at h
    rcases Nat.lt_or_ge c.bufLen.toNat 63 with hbelow | hlast
    · rw [List.foldl_cons, c.push_below b hbelow]
      have hrest := ih (c := { c with buf := c.buf.set c.bufLen.toNat b c.bufLen.isLt, bufLen := c.bufLen + 1 })
        (by simp only [toNat_add_one hbelow]; omega)
      simpa only [toNat_add_one hbelow, placeBytes_cons] using hrest
    · have hfull : c.bufLen.toNat = 63 := by omega
      obtain rfl : bs = [] := List.eq_nil_of_length_eq_zero (by omega)
      have hbuf : placeBytes c.buf c.bufLen.toNat [b] = c.buf.set 63 b := by
        simp only [hfull, ← placeBytes_cons c.buf (show 63 < 64 by decide), placeBytes_nil]
      rw [hbuf]
      exact c.push_full b hfull

/-! ### Updates -/

theorem push_nbits_comm (c : Md5Context) (n : BitVec 64) (v : Byte) :
    ({ c with nbits := n } : Md5Context).push v = { c.push v with nbits := n } := by
  simp only [Md5Context.push]
  split <;> rfl

theorem foldl_push_nbits_comm (c : Md5Context) (n : BitVec 64) (bs : List Byte) :
    bs.foldl Md5Context.push { c with nbits := n } = { bs.foldl Md5Context.push c with nbits := n } := by
  induction bs generalizing c with
  | nil => rfl
  | cons b bs ih => rw [List.foldl_cons, push_nbits_comm, ih, List.foldl_cons]

/-- An update is a run of pushes that counts (R149). -/
theorem update_eq_foldl_push (c : Md5Context) (bs : List Byte) :
    c.update bs = { bs.foldl Md5Context.push c with nbits := c.nbits + 8 * BitVec.ofNat 64 bs.length } := by
  induction bs generalizing c with
  | nil => simp
  | cons b bs ih =>
    have hcount : c.nbits + 8 + 8 * BitVec.ofNat 64 bs.length = c.nbits + 8 * BitVec.ofNat 64 (bs.length + 1) := by
      rw [BitVec.ofNat_add, mul_add, add_assoc, add_comm 8]
      rfl
    have habsorb : c.absorb b = { c.push b with nbits := c.nbits + 8 } := rfl
    rw [Md5Context.update_cons, ih, habsorb, foldl_push_nbits_comm, hcount]
    rfl

theorem foldl_push_bufLen (c : Md5Context) (bs : List Byte) :
    (bs.foldl Md5Context.push c).bufLen.toNat = (c.bufLen.toNat + bs.length) % 64 := by
  induction bs generalizing c with
  | nil => exact (Nat.mod_eq_of_lt c.bufLen.isLt).symm
  | cons b bs ih =>
    rw [List.foldl_cons, ih, Md5Context.push_bufLen, List.length_cons]
    omega

theorem State.dataBytes_length (s : State) : s.dataBytes.length = s.len := Memory.readBytes_length ..

theorem State.dataBytes_getD (s : State) {k : Nat} (hk : k < s.len) : s.dataBytes.getD k 0 = s.data.read k := by
  have hk' : k < s.dataBytes.length := s.dataBytes_length.symm ▸ hk
  rw [List.getD_eq_getElem _ _ hk']
  exact (Memory.readBytes_getElem s.data 0 s.len k hk').trans (by rw [Nat.zero_add])

/-- Settles O37: the run of pushes of an update, and its count. -/
theorem md5UpdateCountsAndBuffers : Obligations.Md5UpdateCountsAndBuffers := by
  intro s hf hst
  refine ⟨_, exec_md5Update_completes hf hst, rfl, (Md5Context.update_st _ _).trans hst, ?_, ?_, fun h => ?_⟩
  · simp [update_eq_foldl_push, s.dataBytes_length]
  · simp [update_eq_foldl_push, foldl_push_bufLen, s.dataBytes_length]
  · rw [← s.dataBytes_length] at h
    have hrun := foldl_push_below h
    simp only [State.setMd5_md5, update_eq_foldl_push, hrun]
    refine ⟨trivial, trivial, fun k => (placeBytes_getElem _ _ _ k.isLt).trans ?_⟩
    rw [s.dataBytes_length]
    split
    next hin => exact s.dataBytes_getD (by omega)
    next => rfl

/-! ### The byte-at-a-time law -/

theorem withData_dataBytes (s : State) {d : List Byte} (h : d.length < 2 ^ s.lenW) :
    (s.withData d).dataBytes = d := by
  have hlen : (s.withData d).len = d.length := Nat.mod_eq_of_lt h
  rw [State.dataBytes, hlen]
  exact Memory.readBytes_ofBytes d

theorem exec_md5Update_withData {s : State} (hf : s.fault = false) (hst : s.md5.st = .active) {d : List Byte}
    (h : d.length < 2 ^ s.lenW) :
    exec .md5Update (s.withData d) = .next ((s.withData d).setMd5 (s.md5.update d)) := by
  have hrun := exec_md5Update_completes (s := s.withData d) hf hst
  rwa [withData_dataBytes s h] at hrun

/-- Settles O38: an update with one byte more is the update and one `absorb`. -/
theorem md5UpdateConsumesByteByByte : Obligations.Md5UpdateConsumesByteByByte := by
  intro s hf hst
  refine ⟨exec_md5Update_withData hf hst (Nat.two_pow_pos _), fun d b hd => ?_⟩
  have hconcat : s.md5.update (d ++ [b]) = (s.md5.update d).absorb b := Md5Context.update_append _ d [b]
  refine ⟨_, _, exec_md5Update_withData hf hst (by omega), exec_md5Update_withData hf hst (by simpa using hd), ?_⟩
  simp only [State.setMd5_md5, hconcat]
  generalize s.md5.update d = c
  refine ⟨Md5Context.absorb_nbits c b, c.push_buf b, fun hne => ?_, fun hfull => ?_⟩
  · have hbelow : c.bufLen.toNat < 63 := by bv_omega
    simp [c.push_below b hbelow]
  · have h63 : c.bufLen.toNat = 63 := by rw [hfull]; rfl
    simpa using c.push_full b h63

/-! ### Chunks -/

/-- The HOST's actions that hand one chunk to `md5_update` (R156). -/
def chunkActions (d : List Byte) : List HostAction := [.supplyData d, .writeLen d.length, .command 0x00000009]

theorem run_succ {k : Nat} {s t : State} (h : step s = .next t) : core.run (k + 1) s = core.run k t := by
  have hstep : core.step s = .next t := h
  simp only [Host.Core.run, hstep]

/-- The state after the command of a chunk `d`. -/
def State.afterChunk (s : State) (d : List Byte) (rest : List HostAction) : State :=
  (((s.withData d).hostMoved rest).present 0x00000009).setMd5 (s.md5.update d)

@[simp] theorem State.afterChunk_fault (s : State) (d : List Byte) (rest : List HostAction) :
    (s.afterChunk d rest).fault = s.fault := by simp [State.afterChunk, State.withData]

@[simp] theorem State.afterChunk_lenW (s : State) (d : List Byte) (rest : List HostAction) :
    (s.afterChunk d rest).lenW = s.lenW := by simp [State.afterChunk, State.withData]

@[simp] theorem State.afterChunk_md5 (s : State) (d : List Byte) (rest : List HostAction) :
    (s.afterChunk d rest).md5 = s.md5.update d := State.setMd5_md5 _ _

theorem step_updateCommand {s : State} (hf : s.fault = false) (hst : s.md5.st = .active) {d : List Byte}
    (h : d.length < 2 ^ s.lenW) (rest : List HostAction) :
    step { s.withData d with host := .command 0x00000009 :: rest } = .next (s.afterChunk d rest) := by
  have hdecode : decode 0x00000009 = .ok .md5Update := by decide
  have hbytes : (((s.withData d).hostMoved rest).present 0x00000009).dataBytes = d := withData_dataBytes s h
  have hexec := exec_md5Update_completes (s := ((s.withData d).hostMoved rest).present 0x00000009) hf hst
  rw [hbytes] at hexec
  simp only [step, runCommand, State.present_cmd, hdecode]
  exact hexec

theorem run_chunk {s : State} (hf : s.fault = false) (hst : s.md5.st = .active) {d : List Byte}
    (h : d.length < 2 ^ s.lenW) (rest : List HostAction) (k : Nat) :
    core.run (k + 3) { s with host := chunkActions d ++ rest } = core.run k (s.afterChunk d rest) := by
  calc core.run (k + 3) { s with host := chunkActions d ++ rest }
      = core.run (k + 2) { s.supplyData d with host := .writeLen d.length :: .command 0x00000009 :: rest } :=
        run_succ rfl
    _ = core.run (k + 1) { s.withData d with host := .command 0x00000009 :: rest } := run_succ rfl
    _ = core.run k (s.afterChunk d rest) := run_succ (step_updateCommand hf hst h rest)

/-- A run of chunks is one update with all of them. -/
theorem run_chunks {s : State} (hf : s.fault = false) (hst : s.md5.st = .active) {chunks : List (List Byte)}
    (h : chunks.flatten.length < 2 ^ s.lenW) :
    ∃ t, core.run (3 * chunks.length) { s with host := chunks.flatMap chunkActions } = .next t ∧
      t.md5 = s.md5.update chunks.flatten := by
  induction chunks generalizing s with
  | nil => exact ⟨_, rfl, rfl⟩
  | cons d chunks ih =>
    rw [List.flatten_cons, List.length_append] at h
    obtain ⟨t, ht, htmd5⟩ := ih (s := s.afterChunk d (chunks.flatMap chunkActions)) (by simp [hf]) (by simp [hst])
      (by rw [State.afterChunk_lenW]; omega)
    refine ⟨t, ?_, ?_⟩
    · rw [List.flatMap_cons, List.length_cons, Nat.mul_succ, run_chunk hf hst (by omega)]
      exact ht
    · rw [htmd5, State.afterChunk_md5, List.flatten_cons, Md5Context.update_append]

/-- Settles O39: both runs are one update with the joined data. -/
theorem chunkingDoesNotMatter : Obligations.ChunkingDoesNotMatter := by
  intro s chunks hf hst h
  obtain ⟨t, ht, htmd5⟩ := run_chunks hf hst h
  obtain ⟨u, hu, humd5⟩ := run_chunks (chunks := [chunks.flatten]) hf hst (by simpa using h)
  have hsame : t.md5 = u.md5 := by rw [htmd5, humd5]; simp
  refine ⟨t, u, ht, by simpa [chunkActions] using hu, ?_⟩
  rw [hsame]
  exact ⟨rfl, rfl, rfl, rfl, fun _ _ => rfl⟩

end Sys2Proof.Machine
end

section
/-! The padding of `md5_final` (spec/44_md5.md R150 to R153) as one run of pushes: 0x80, zeros up to offset 56, the bit
count. -/

namespace Sys2Proof.Machine

/-! ### The padding as a list of bytes -/

/-- `zeroFill` pushes as many zeros as take the fill count to 56. -/
theorem zeroFill_eq_foldl_push {c : Md5Context} {j k : Nat} (hj : j ≤ 63) (hjk : j ≤ k)
    (h : (c.bufLen.toNat + j) % 64 = 56) : c.zeroFill k = (List.replicate j 0).foldl Md5Context.push c := by
  induction j generalizing c k with
  | zero =>
    have hfull : c.bufLen = 56 := BitVec.eq_of_toNat_eq (by have := c.bufLen.isLt; change _ = 56; omega)
    cases k with
    | zero => rfl
    | succ k => simp [Md5Context.zeroFill, hfull]
  | succ j ih =>
    have hopen : c.bufLen ≠ 56 := by
      rintro h56
      rw [h56] at h
      change (56 + (j + 1)) % 64 = 56 at h
      omega
    have hnext : ((c.push 0).bufLen.toNat + j) % 64 = 56 := by
      rw [Md5Context.push_bufLen]
      omega
    cases k with
    | zero => omega
    | succ k =>
      rw [Md5Context.zeroFill, if_neg hopen, ih (by omega) (by omega) hnext]
      rfl

/-- The bytes `md5_final` pushes after `j` zeros. -/
def padding (c : Md5Context) (j : Nat) : List Byte := 0x80 :: (List.replicate j 0 ++ leBytes c.nbits 8)

theorem final_eq_foldl_push (c : Md5Context) :
    c.final = { (padding c ((119 - c.bufLen.toNat) % 64)).foldl Md5Context.push c with st := .finalized } := by
  have hzeros : (c.push 0x80).zeroFill 63 =
      (List.replicate ((119 - c.bufLen.toNat) % 64) 0).foldl Md5Context.push (c.push 0x80) := by
    refine zeroFill_eq_foldl_push (by omega) (by omega) ?_
    have hlt := c.bufLen.isLt
    rw [Md5Context.push_bufLen]
    omega
  simp only [Md5Context.final, padding, hzeros, List.foldl_cons, List.foldl_append]

/-! ### The blocks of the padding -/

theorem length_padding (c : Md5Context) (j : Nat) : (padding c j).length = j + 9 := by simp [padding]

theorem leBytes_getD {n : Nat} (v : BitVec n) {k i : Nat} (hi : i < k) : (leBytes v k).getD i 0 = byteOf v i := by
  rw [List.getD_eq_getElem _ _ (by simpa using hi), leBytes_getElem]

theorem zeros_getD (j i : Nat) : (List.replicate j (0 : Byte)).getD i 0 = 0 := by
  rw [List.getD_eq_getElem?_getD, List.getElem?_getD_replicate_default_eq]

/-- Zeros and then the bit count. -/
theorem zeros_count_getD (n : BitVec 64) {j i : Nat} (hi : i < j + 8) :
    (List.replicate j 0 ++ leBytes n 8).getD i 0 = if i < j then 0 else byteOf n (i - j) := by
  split
  next hzero =>
    rw [List.getD_append _ _ _ _ (by simpa using hzero), zeros_getD]
  next hcount =>
    rw [List.getD_append_right _ _ _ _ (by simpa using hcount), List.length_replicate, leBytes_getD n (by omega)]

/-- Up to 55 buffered bytes: one block (R151). -/
theorem placeBytes_padding_oneBlock {c : Md5Context} (h : c.bufLen.toNat ≤ 55) :
    placeBytes c.buf c.bufLen.toNat (padding c (55 - c.bufLen.toNat)) =
      Vector.ofFn fun k : Fin 64 =>
        if k.val < c.bufLen.toNat then c.buf[k]
        else if k.val = c.bufLen.toNat then 0x80
        else if k.val < 56 then 0
        else c.nbits.extractLsb' (8 * (k.val - 56)) 8 := by
  refine Vector.ext fun k hk => ?_
  rw [placeBytes_getElem, Vector.getElem_ofFn, length_padding]
  dsimp only
  rcases Nat.lt_trichotomy k c.bufLen.toNat with hlt | heq | hgt
  · rw [if_neg (by omega), if_pos hlt]
    rfl
  · simp [← heq, padding, show k < k + (55 - k + 9) by omega]
  · have hnext : k - c.bufLen.toNat = k - c.bufLen.toNat - 1 + 1 := by omega
    rw [if_pos (by omega), if_neg (by omega), if_neg (by omega), padding, hnext, List.getD_cons_succ,
      zeros_count_getD _ (by omega)]
    refine if_congr (by omega) rfl ?_
    rw [byteOf, show k - c.bufLen.toNat - 1 - (55 - c.bufLen.toNat) = k - 56 by omega]

/-- From 56 buffered bytes on: the rest of the first block (R151). -/
theorem placeBytes_padding_firstBlock {c : Md5Context} :
    placeBytes c.buf c.bufLen.toNat (0x80 :: List.replicate (63 - c.bufLen.toNat) 0) =
      Vector.ofFn fun k : Fin 64 =>
        if k.val < c.bufLen.toNat then c.buf[k] else if k.val = c.bufLen.toNat then 0x80 else 0 := by
  refine Vector.ext fun k hk => ?_
  rw [placeBytes_getElem, Vector.getElem_ofFn, List.length_cons, List.length_replicate]
  dsimp only
  rcases Nat.lt_trichotomy k c.bufLen.toNat with hlt | heq | hgt
  · rw [if_neg (by omega), if_pos hlt]
    rfl
  · simp [← heq]
  · have hnext : k - c.bufLen.toNat = k - c.bufLen.toNat - 1 + 1 := by omega
    rw [if_pos (by omega), if_neg (by omega), if_neg (by omega), hnext, List.getD_cons_succ,
      zeros_getD]

/-- The second block: 56 zeros and the bit count (R151). -/
theorem placeBytes_padding_secondBlock (buf : Vector Byte 64) (n : BitVec 64) :
    placeBytes buf 0 (List.replicate 56 0 ++ leBytes n 8) =
      Vector.ofFn fun k : Fin 64 => if k.val < 56 then 0 else n.extractLsb' (8 * (k.val - 56)) 8 := by
  refine Vector.ext fun k hk => ?_
  rw [placeBytes_getElem, Vector.getElem_ofFn, if_pos (by simpa using hk), Nat.sub_zero, zeros_count_getD n hk]
  rfl

theorem final_h_of_le_55 {c : Md5Context} (h : c.bufLen.toNat ≤ 55) :
    c.final.h = md5Block c.h (placeBytes c.buf c.bufLen.toNat (padding c (55 - c.bufLen.toNat))) ∧
      c.final.bufLen = 0 := by
  have hcount : (119 - c.bufLen.toNat) % 64 = 55 - c.bufLen.toNat := by omega
  rw [final_eq_foldl_push, hcount]
  exact foldl_push_fills (by rw [length_padding]; omega)

theorem final_h_of_ge_56 {c : Md5Context} (h : 56 ≤ c.bufLen.toNat) :
    c.final.h = md5Block
      (md5Block c.h (placeBytes c.buf c.bufLen.toNat (0x80 :: List.replicate (63 - c.bufLen.toNat) 0)))
      (Vector.ofFn fun k : Fin 64 => if k.val < 56 then 0 else c.nbits.extractLsb' (8 * (k.val - 56)) 8) ∧
      c.final.bufLen = 0 := by
  have hlt := c.bufLen.isLt
  have hcount : (119 - c.bufLen.toNat) % 64 = 63 - c.bufLen.toNat + 56 := by omega
  have hsplit : padding c (63 - c.bufLen.toNat + 56) =
      (0x80 :: List.replicate (63 - c.bufLen.toNat) 0) ++ (List.replicate 56 0 ++ leBytes c.nbits 8) := by
    simp [padding, List.replicate_add]
  obtain ⟨hh, hlen⟩ := foldl_push_fills (c := c) (bs := 0x80 :: List.replicate (63 - c.bufLen.toNat) 0)
    (by rw [List.length_cons, List.length_replicate]; omega)
  rw [final_eq_foldl_push, hcount, hsplit, List.foldl_append]
  generalize (0x80 :: List.replicate (63 - c.bufLen.toNat) 0).foldl Md5Context.push c = d at hh hlen ⊢
  have hzero : d.bufLen.toNat = 0 := by simp [hlen]
  obtain ⟨hh', hlen'⟩ := foldl_push_fills (c := d) (bs := List.replicate 56 0 ++ leBytes c.nbits 8)
    (by rw [hzero]; simp)
  rw [hzero, placeBytes_padding_secondBlock, hh] at hh'
  dsimp only
  exact ⟨hh', hlen'⟩

theorem final_bufLen (c : Md5Context) : c.final.bufLen = 0 := by
  rcases Nat.lt_or_ge c.bufLen.toNat 56 with h | h
  · exact (final_h_of_le_55 (by omega)).2
  · exact (final_h_of_ge_56 h).2

/-- R153: byte 4j + m of DIGEST is byte m of word j. -/
theorem digestOf_getElem (h : Vector Word 4) (j m : Fin 4) :
    (digestOf h)[4 * j.val + m.val]'(by omega) = h[j].extractLsb' (8 * m.val) 8 := by
  have hword : (4 * j.val + m.val) / 4 = j.val := by omega
  have hbyte : (4 * j.val + m.val) % 4 = m.val := by omega
  simp only [digestOf, tabulate_getElem, byteOf, hword, hbyte]
  rfl

/-- Only the context and DIGEST are written. -/
theorem State.setDigest_setMd5_frame (s : State) (c : Md5Context) (d : Vector Byte 16) :
    (s.setMd5 c).setDigest d =
      { s with md5 := ((s.setMd5 c).setDigest d).md5, digest := ((s.setMd5 c).setDigest d).digest } := rfl

/-- Settles O40: the padding fills one block or two. -/
theorem md5FinalPadsAndEmitsTheDigest : Obligations.Md5FinalPadsAndEmitsTheDigest := by
  intro s hf hst
  refine ⟨_, exec_md5Final_completes hf hst, State.setDigest_setMd5_frame _ _ _, ?_⟩
  simp only [State.setDigest_md5, State.setMd5_md5, State.setDigest_digest]
  refine ⟨Md5Context.final_st _, final_bufLen _, Md5Context.final_nbits _, digestOf_getElem _, fun h => ?_, fun h => ?_⟩
  · rw [(final_h_of_le_55 h).1, placeBytes_padding_oneBlock h]
  · rw [(final_h_of_ge_56 h).1, placeBytes_padding_firstBlock]

end Sys2Proof.Machine
end

section
/-! The step by the HOST's actions, the state after reset and what the HOST reads (spec/10_state.md sections 4, 5 and 7,
spec/30_encoding.md R60, spec/70_reset_and_hazards.md R200), and the schedule of the MD5 rounds. -/

namespace Sys2Proof.Machine

/-! ### The step -/

theorem runCommand_of_decode {s : State} {i : Instr} (h : decode s.cmd = .ok i) : runCommand s = exec i s := by
  simp only [runCommand, h]

theorem step_command {s : State} {w : Word} {rest : List HostAction} (h : s.host = .command w :: rest) :
    step s = runCommand ((s.hostMoved rest).present w) := by
  simp only [step, h]

theorem step_pokeBuffer {s : State} {off : Nat} {v : Byte} {rest : List HostAction}
    (h : s.host = .pokeBuffer off v :: rest) : step s = pokeBuffer off v (s.hostMoved rest) := by
  simp only [step, h]

/-- Settles O6: one equation of `step` for each action of the HOST. -/
theorem stepRunsTheDecodedCommand : Obligations.StepRunsTheDecodedCommand := by
  refine ⟨fun s w rest h => ⟨fun i hi => ?_, fun hnone => ⟨fun hf => ?_, fun hf => ?_⟩⟩, ?_, ?_, ?_, ?_, ?_⟩
  · exact (step_command h).trans (runCommand_of_decode (s := (s.hostMoved rest).present w) hi)
  · exact (step_command h).trans (runCommand_of_rejects (s := (s.hostMoved rest).present w) hf hnone)
  · exact (step_command h).trans (runCommand_stuck (s := (s.hostMoved rest).present w) hf)
  · intro s v rest h
    simp only [step, h]
    rfl
  · intro s d rest h
    simp only [step, h]
    rfl
  · intro s d rest h
    simp only [step, h]
    rfl
  · intro s off v rest h
    exact ⟨fun hlt => (step_pokeBuffer h).trans (if_pos hlt),
      fun hge => (step_pokeBuffer h).trans (if_neg (Nat.not_lt.2 hge))⟩
  · intro s h
    simp only [step, h]

/-- Settles O7: a command is ignored, faults or completes, each with a next state. -/
theorem everyCommandAnswersANextState : Obligations.EveryCommandAnswersANextState := by
  intro i s
  rcases exec_form i s with ⟨W, id, nm, lo, effect, -, hexec, -⟩ | ⟨na, c, d, -, hexec⟩
  · rw [hexec]
    exact crcCommand_next ..
  · rw [hexec]
    exact md5Command_next ..

/-! ### STATUS -/

theorem extractLsb'_append_low {n m start len : Nat} (x : BitVec n) (y : BitVec m) (h : start + len ≤ m) :
    (x ++ y).extractLsb' start len = y.extractLsb' start len := by
  refine BitVec.eq_of_getLsbD_eq fun i hi => ?_
  rw [BitVec.getLsbD_extractLsb', BitVec.getLsbD_extractLsb', BitVec.getLsbD_append, if_pos (by omega)]

theorem extractLsb'_append_high {n m start len : Nat} (x : BitVec n) (y : BitVec m) (h : m ≤ start) :
    (x ++ y).extractLsb' start len = x.extractLsb' (start - m) len := by
  refine BitVec.eq_of_getLsbD_eq fun i hi => ?_
  rw [BitVec.getLsbD_extractLsb', BitVec.getLsbD_extractLsb', BitVec.getLsbD_append, if_neg (by omega),
    Nat.sub_add_comm h]

/-- The fields of STATUS as its parts (spec/10_state.md R25). -/
theorem status_fields_of_append (st : BitVec 2) (m : BitVec 1) (code : BitVec 4) (f : BitVec 1) :
    let w : BitVec (24 + 2 + 1 + 4 + 1) := (0 : BitVec 24) ++ st ++ m ++ code ++ f
    w.extractLsb' 0 1 = f ∧ w.extractLsb' 1 4 = code ∧ w.extractLsb' 5 1 = m ∧ w.extractLsb' 6 2 = st ∧
      w.extractLsb' 8 24 = 0 := by
  refine ⟨?_, ?_, ?_, ?_, ?_⟩
  · rw [extractLsb'_append_low _ _ (by decide), BitVec.extractLsb'_eq_self]
  · rw [extractLsb'_append_high _ _ (by decide), extractLsb'_append_low _ _ (by decide), BitVec.extractLsb'_eq_self]
  · rw [extractLsb'_append_high _ _ (by decide), extractLsb'_append_high _ _ (by decide),
      extractLsb'_append_low _ _ (by decide), BitVec.extractLsb'_eq_self]
  · rw [extractLsb'_append_high _ _ (by decide), extractLsb'_append_high _ _ (by decide),
      extractLsb'_append_high _ _ (by decide), extractLsb'_append_low _ _ (by decide), BitVec.extractLsb'_eq_self]
  · rw [extractLsb'_append_high _ _ (by decide), extractLsb'_append_high _ _ (by decide),
      extractLsb'_append_high _ _ (by decide), extractLsb'_append_high _ _ (by decide), BitVec.extractLsb'_eq_self]

theorem getLsbD_of_extract_one {n k : Nat} {w : BitVec n} {b : Bool} (h : w.extractLsb' k 1 = .ofBool b) :
    w.getLsbD k = b := by
  simpa using congrArg (·.getLsbD 0) h

/-- Settles O50: STATUS is the concatenation of its fields. -/
theorem statusWordLayout : Obligations.StatusWordLayout := by
  refine ⟨fun s => ?_, by decide, by decide⟩
  obtain ⟨hf, hcode, hmatch, hst, hrest⟩ :=
    status_fields_of_append s.md5.st.code (.ofBool s.matched) s.faultCode.code (.ofBool s.fault)
  exact ⟨getLsbD_of_extract_one hf, hcode, getLsbD_of_extract_one hmatch, hst, hrest⟩

/-! ### Reset -/

/-- Settles O44: the fixed state, field by field and row by row. -/
theorem stateAfterReset : Obligations.StateAfterReset := by
  refine ⟨rfl, rfl, rfl, rfl, rfl, rfl, rfl, rfl, rfl, rfl, ?_⟩
  decide

theorem State.rst_status (s : State) : s.rst.status = 0 := by
  simp [State.status, FaultCode.code, Md5St.code]

/-- Settles O45: `rst` writes the flags and MD5_ST whatever they were, and names no parameter or space. -/
theorem resetActionClearsTheFlags : Obligations.ResetActionClearsTheFlags := by
  intro s rest h
  exact ⟨(s.hostMoved rest).rst, by simp only [step, h], rfl, rfl, rfl, rfl, rfl, State.rst_status _,
    rfl, rfl, rfl, rfl, rfl⟩

/-! ### The register numbers -/

theorem State.readReg_digest (s : State) (j : Fin 4) : s.readReg (4 + j.val) = some (s.digestWord j) := by
  rw [State.readReg, if_neg (by omega), if_neg (by omega), dif_pos (by omega)]
  simp only [Nat.add_sub_cancel_left]

theorem State.readReg_tblout (s : State) (i : Fin 256) : s.readReg (8 + i.val) = some s.tblout[i] := by
  rw [State.readReg, if_neg (by omega), if_neg (by omega), dif_neg (by omega), dif_pos (by omega)]
  simp only [Nat.add_sub_cancel_left]
  rfl

theorem State.readReg_above (s : State) {n : Nat} (h : 263 < n) : s.readReg n = none := by
  rw [State.readReg, if_neg (by omega), if_neg (by omega), dif_neg (by omega), dif_neg (by omega)]

/-- The bytes of a word of four. -/
theorem bytes_of_append (b3 b2 b1 b0 : Byte) :
    let w : BitVec (8 + 8 + 8 + 8) := b3 ++ b2 ++ b1 ++ b0
    w.extractLsb' 0 8 = b0 ∧ w.extractLsb' 8 8 = b1 ∧ w.extractLsb' 16 8 = b2 ∧ w.extractLsb' 24 8 = b3 := by
  refine ⟨?_, ?_, ?_, ?_⟩
  · rw [extractLsb'_append_low _ _ (by decide), BitVec.extractLsb'_eq_self]
  · rw [extractLsb'_append_high _ _ (by decide), extractLsb'_append_low _ _ (by decide), BitVec.extractLsb'_eq_self]
  · rw [extractLsb'_append_high _ _ (by decide), extractLsb'_append_high _ _ (by decide),
      extractLsb'_append_low _ _ (by decide), BitVec.extractLsb'_eq_self]
  · rw [extractLsb'_append_high _ _ (by decide), extractLsb'_append_high _ _ (by decide),
      extractLsb'_append_high _ _ (by decide), BitVec.extractLsb'_eq_self]

/-- R30: byte m of word j is DIGEST[4j + m]. -/
theorem State.digestWord_byte (s : State) (j m : Fin 4) :
    (s.digestWord j).extractLsb' (8 * m.val) 8 = s.digest[4 * j.val + m.val]'(by omega) := by
  obtain ⟨h0, h1, h2, h3⟩ := bytes_of_append (s.digest[4 * j.val + 3]'(by omega)) (s.digest[4 * j.val + 2]'(by omega))
    (s.digest[4 * j.val + 1]'(by omega)) (s.digest[4 * j.val]'(by omega))
  match m with
  | 0 => exact h0
  | 1 => exact h1
  | 2 => exact h2
  | 3 => exact h3

/-- Settles O51: the ranges of register numbers. -/
theorem registerNumbersOfTheHost : Obligations.RegisterNumbersOfTheHost :=
  ⟨fun _ => rfl, fun s => ⟨rfl, rfl, rfl, rfl, fun j => ⟨s.digestWord j, s.readReg_digest j, s.digestWord_byte j⟩,
    s.readReg_tblout, fun _ => s.readReg_above⟩⟩

/-! ### Rotations -/

theorem getLsbD_rotl32 (v : Word) {s i : Nat} (hs : 1 ≤ s) (hs' : s ≤ 31) (hi : i < 32) :
    (rotl32 v s).getLsbD ((i + s) % 32) = v.getLsbD i := by
  rw [rotl32, BitVec.getLsbD_or, BitVec.getLsbD_shiftLeft, BitVec.getLsbD_ushiftRight]
  rcases Nat.lt_or_ge (i + s) 32 with hlt | hge
  · rw [Nat.mod_eq_of_lt hlt, BitVec.getLsbD_of_ge v (32 - s + (i + s)) (by omega)]
    simp [-BitVec.getLsbD_eq_getElem, hlt]
  · have hmod : (i + s) % 32 = i + s - 32 := by omega
    rw [hmod, show 32 - s + (i + s - 32) = i by omega]
    simp [-BitVec.getLsbD_eq_getElem, show i + s - 32 < s by omega]

/-- R144: within a round no message word comes twice. -/
theorem msgIndex_injective : ∀ r : Fin 4,
    Function.Injective fun k : Fin 16 => msgIndex ⟨16 * r.val + k.val, by omega⟩ := by
  decide +kernel

/-- Settles O35: rotation bit by bit, and in each round sixteen different words, so all of them. -/
theorem rotationsAndScheduleOfTheRounds : Obligations.RotationsAndScheduleOfTheRounds :=
  ⟨fun v _ _ hs hs' hi => getLsbD_rotl32 v hs hs' hi, by decide,
    fun r j => (Finite.injective_iff_bijective.1 (msgIndex_injective r)).existsUnique j⟩

end Sys2Proof.Machine
end
